-- ==== Sys2Proof/Word.lean ====
section
/-! DEFINITION. Word.lean: the widths the block's values have (00_scope.md R5, D3), as names. -/

namespace Sys2Proof

/-- One command word CW (30_encoding.md R80). -/
abbrev CommandWord := BitVec 128

/-- One element of FB or TXF (10_state.md R31). -/
abbrev Byte := BitVec 8

/-- One element of PULSE, PULSE_W = 16 bits (00_scope.md R5). -/
abbrev Sample := BitVec 16

end Sys2Proof
end

