-- ==== Sys2Proof/Config.lean ====
section
/-! DEFINITION. Config.lean: the parameters of 00_scope.md R5 and the free values.
A parameter the spec gives a value is a definition.
A parameter the spec leaves OPEN is an opaque constant with no body, or is built from such constants so that the
constraints of R5 hold whatever they are.
A value the spec calls unspecified is an opaque function of the counter that State holds (log 6 to log 10). -/

namespace Sys2Proof.Config

/-! ## Parameters the spec gives a value (R5; log 14) -/

/-- PULSE_MAX, capacity of PULSE in samples. -/
def pulseMax : Nat := 512
/-- NBANDS, number of band registers. -/
def nBands : Nat := 4
/-- FRAME_MAX, capacity of FB in bytes. -/
def frameMax : Nat := 16
/-- BOUND_INCLUSIVE: both ends of a band belong to the band. -/
def boundInclusive : Bool := true
/-- STRIDE: distance in samples between the pulses DECODE examines. -/
def stride : Nat := 2
/-- LONG_IS_ONE: a pulse in the long band is bit 1. -/
def longIsOne : Bool := true
/-- HASH_GATES_DUP: a duplicate also needs HASH = HASH_PREV. -/
def hashGatesDup : Bool := true
/-- TX_FRAME_BYTES. -/
def txFrameBytes : Nat := 9
/-- TX_DATA_BITS. -/
def txDataBits : Nat := 65
/-- TX_HEADER. -/
def txHeader : Byte := 0xAC
/-- TX_TRAILER. -/
def txTrailer : Byte := 0x80
/-- WAKE_PAIRS. -/
def wakePairs : Nat := 8
/-- N_REPEATS. -/
def nRepeats : Nat := 9
/-- N_RELEASE_REPEATS. -/
def nReleaseRepeats : Nat := 4
/-- RELEASE_PRIMED. -/
def releasePrimed : Bool := true
/-- CMD_UP. -/
def cmdUp : BitVec 16 := 0x000B
/-- RX_COUNT_MIN. -/
def rxCountMin : BitVec 16 := 130
/-- RX_COUNT_MAX. -/
def rxCountMax : BitVec 16 := 130
/-- RX_START. -/
def rxStart : BitVec 16 := 1

/-! ## OPEN durations (R5, D23; log 11) -/

/-- The transmit durations T_, in microseconds. -/
structure TxTiming where
  tShort : Nat
  tLong : Nat
  tSyncHigh : Nat
  tSyncLow : Nat
  tWakeHigh : Nat
  tWakeLow : Nat
  tGap : Nat
  tReleaseDelay : Nat
deriving DecidableEq, Repr, Inhabited

/-- Unconstrained numbers behind the durations. -/
opaque rawTiming : TxTiming

/-- The durations: every choice that meets R5's constraints (0 < T_SHORT < T_LONG, the sync, wake and release times above
0, T_GAP any) arises from some `rawTiming`, and no other does. -/
def txTiming : TxTiming where
  tShort := rawTiming.tShort + 1
  tLong := rawTiming.tShort + 1 + (rawTiming.tLong + 1)
  tSyncHigh := rawTiming.tSyncHigh + 1
  tSyncLow := rawTiming.tSyncLow + 1
  tWakeHigh := rawTiming.tWakeHigh + 1
  tWakeLow := rawTiming.tWakeLow + 1
  tGap := rawTiming.tGap
  tReleaseDelay := rawTiming.tReleaseDelay + 1

/-! ## OPEN command codes (R5, D20; log 12) -/

/-- The raw codes of Down, Stop and Release. -/
structure CmdCodes where
  down : BitVec 16
  stop : BitVec 16
  release : BitVec 16
deriving DecidableEq, Repr, Inhabited

/-- R5's constraint: the four codes are pairwise different. -/
def CmdCodes.distinct (c : CmdCodes) : Bool :=
  c.down != cmdUp && c.stop != cmdUp && c.release != cmdUp &&
    c.down != c.stop && c.down != c.release && c.stop != c.release

/-- Unconstrained codes. -/
opaque rawCmdCodes : CmdCodes

/-- CMD_DOWN, CMD_STOP, CMD_RELEASE: any three codes that meet R5's constraint (the triple after `else` is one of them, and
stands in only when `rawCmdCodes` does not meet it). -/
def cmdCodes : CmdCodes :=
  if rawCmdCodes.distinct then rawCmdCodes else ⟨0x0001, 0x0002, 0x0003⟩

/-! ## OPEN receive parameters (R5; log 13) -/

/-- Which of the two windows the illustrated frame has. -/
opaque rxWindowIsShort : Bool

/-- RX_WINDOW, one of 500 or 600 milliseconds. -/
def rxWindow : BitVec 16 := if rxWindowIsShort then 500 else 600

/-- FP_FN, from (RXID, RXNODE, RXCODE) to the fingerprint (43_dedup.md R186, D32). -/
opaque fpFn : BitVec 24 → BitVec 8 → BitVec 16 → BitVec 32

/-! ## Free values: what reset leaves unspecified (10_state.md R37, U3; log 6). The argument is the reset's draw. -/

opaque resetBandMin : Nat → Fin 4 → BitVec 16
opaque resetBandMax : Nat → Fin 4 → BitVec 16
opaque resetSum : Nat → BitVec 8
opaque resetRxId : Nat → BitVec 24
opaque resetRxNode : Nat → BitVec 8
opaque resetRxCode : Nat → BitVec 16
/-- Below 5: the reserved command codes 5 to 7 never occur (30_encoding.md R88, U9; log 9). -/
opaque resetRxCmd : Nat → Fin 5
opaque resetFpLast : Nat → BitVec 32
opaque resetTLast : Nat → BitVec 32
opaque resetHash : Nat → BitVec 32
opaque resetHashPrev : Nat → BitVec 32

/-! ## Free values: memory elements nothing has written since reset (R37, U2, U3; log 7). Arguments: the reset's draw and
the element index. -/

opaque unwrittenPulse : Nat → Nat → Sample
opaque unwrittenFb : Nat → Nat → Byte
opaque unwrittenTxf : Nat → Nat → Byte

/-! ## Free values: what a rejecting operation leaves unspecified. The first argument is the operation's draw. -/

/-- FB[j] after a DECODE that ends `reject` (41_pwm_decoder.md R132, U1; log 8). -/
opaque rejectedFb : Nat → Nat → Byte
/-- RXID after an RXCHK that ends `reject` (42_frame_check.md R155, U4; log 9). -/
opaque rejectedRxId : Nat → BitVec 24
opaque rejectedRxNode : Nat → BitVec 8
opaque rejectedRxCode : Nat → BitVec 16
/-- Below 5, as `resetRxCmd` (log 9). -/
opaque rejectedRxCmd : Nat → Fin 5

end Sys2Proof.Config
end

