-- ==== Sys2Proof/Syntax.lean ====
section
/-! DEFINITION. Syntax.lean: the operations, one constructor per row of spec/opcode_table.json.
Operand widths are those of 30_encoding.md R81; every operand is unsigned and used as it stands. -/

namespace Sys2Proof

/-- An operation of the block (30_encoding.md R82), operands in signature order (R94). -/
inductive Instr where
  /-- BAND b, nominal, tol (40_classifier.md R113). -/
  | band (b : Fin 4) (nominal tol : BitVec 16)
  /-- BANDCLR b (R114). -/
  | bandclr (b : Fin 4)
  /-- CLASSIFY d (R115). -/
  | classify (d : Sample)
  /-- CLASSIFYP i (R116). -/
  | classifyp (i : BitVec 16)
  /-- DECODE nbits, count, start, smin, smax, lmin, lmax (41_pwm_decoder.md R132). -/
  | decode (nbits : BitVec 8) (count start smin smax lmin lmax : BitVec 16)
  /-- GATE min, max (42_frame_check.md R151). -/
  | gate (lo hi : BitVec 16)
  /-- CHKSUM lo, hi (R153). -/
  | chksum (lo hi : BitVec 8)
  /-- RXCHK (R155). -/
  | rxchk
  /-- EMIT proto (R158). -/
  | emit (proto : BitVec 8)
  /-- CONSUME z (R159). -/
  | consume (z : Bool)
  /-- DEDUP fp, now, window (43_dedup.md R181). -/
  | dedup (fp now : BitVec 32) (window : BitVec 16)
  /-- TXBUILD id, node, code (44_tx_encoder.md R202). -/
  | txbuild (id : BitVec 24) (node : BitVec 8) (code : BitVec 16)
  /-- TXFRAME primed (R204). -/
  | txframe (primed : Bool)
  /-- TXSEND id, node, token (R206). -/
  | txsend (id : BitVec 24) (node : BitVec 8) (token : BitVec 3)
  /-- Select code 0x0, reserved (30_encoding.md R83). -/
  | reserved0
  /-- Select code 0xF, reserved (30_encoding.md R83). -/
  | reservedF
deriving DecidableEq, Repr

end Sys2Proof
end

