-- ==== Sys2Proof/WellFormed.lean ====
section
/-! DEFINITION. WellFormed.lean: which operations are plain ones by their operands alone (30_encoding.md R89; log 18).
The operand widths are in the constructors, so an operand that does not fit its field cannot be written at all.
Operations that are not well-formed have a meaning too (a ConfigFault or `reject TOKEN`): no meaning and no encoding asks for
well-formedness. -/

namespace Sys2Proof

/-- The part of R89's list that the operands decide: the reserved select codes, a TXSEND token that is not Up, Down or Stop,
a DECODE of more bits than FB holds, a CHKSUM of an empty range. -/
def Instr.wf : Instr → Bool
  | .band _ _ _ => true
  | .bandclr _ => true
  | .classify _ => true
  | .classifyp _ => true
  | .decode nbits _ _ _ _ _ _ => decide (nbits.toNat ≤ 8 * Config.frameMax)
  | .gate _ _ => true
  | .chksum lo hi => decide (lo.toNat ≤ hi.toNat)
  | .rxchk => true
  | .emit _ => true
  | .consume _ => true
  | .dedup _ _ _ => true
  | .txbuild _ _ _ => true
  | .txframe _ => true
  | .txsend _ _ token => token == 1 || token == 2 || token == 3
  | .reserved0 => false
  | .reservedF => false

end Sys2Proof
end

