-- ==== Sys2Proof/Decode.lean ====
section
/-! DEFINITION. Decode.lean: command words to operations and back (30_encoding.md R80 to R84). -/

namespace Sys2Proof

/-- The select code OP = CW[127:124] (R80). -/
def selectCode (cw : CommandWord) : BitVec 4 := cw.extractLsb' 124 4

/-- The decoder, total on command words: field positions of R81, unused bits ignored (R84), the reserved select codes under
their own names (R83). The codes 0x0 to 0xE stand each in a line of its own, so the last line is 0xF alone. -/
def decode (cw : CommandWord) : Instr :=
  match (selectCode cw).toNat with
  | 0x0 => .reserved0
  | 0x1 => .band (cw.extractLsb' 122 2).toFin (cw.extractLsb' 106 16) (cw.extractLsb' 90 16)
  | 0x2 => .bandclr (cw.extractLsb' 122 2).toFin
  | 0x3 => .classify (cw.extractLsb' 108 16)
  | 0x4 => .classifyp (cw.extractLsb' 108 16)
  | 0x5 => .decode (cw.extractLsb' 116 8) (cw.extractLsb' 100 16) (cw.extractLsb' 84 16) (cw.extractLsb' 68 16)
      (cw.extractLsb' 52 16) (cw.extractLsb' 36 16) (cw.extractLsb' 20 16)
  | 0x6 => .gate (cw.extractLsb' 108 16) (cw.extractLsb' 92 16)
  | 0x7 => .chksum (cw.extractLsb' 116 8) (cw.extractLsb' 108 8)
  | 0x8 => .rxchk
  | 0x9 => .emit (cw.extractLsb' 116 8)
  | 0xA => .consume (cw.getLsbD 123)
  | 0xB => .dedup (cw.extractLsb' 92 32) (cw.extractLsb' 60 32) (cw.extractLsb' 44 16)
  | 0xC => .txbuild (cw.extractLsb' 100 24) (cw.extractLsb' 92 8) (cw.extractLsb' 76 16)
  | 0xD => .txframe (cw.getLsbD 123)
  | 0xE => .txsend (cw.extractLsb' 100 24) (cw.extractLsb' 92 8) (cw.extractLsb' 89 3)
  | _ => .reservedF

/-- A command word from its fields, each given as its value and the position of its lowest bit. -/
def packWord (fields : List (Nat × Nat)) : CommandWord := BitVec.ofNat 128 (fields.map fun f => 2 ^ f.2 * f.1).sum

/-- The command word of an operation: the select code at CW[127:124], the operands packed downward with no gaps (R80, R81),
the unused bits assembled as zero (R84). -/
def encode : Instr → CommandWord
  | .band b nominal tol => packWord [(0x1, 124), (b.val, 122), (nominal.toNat, 106), (tol.toNat, 90)]
  | .bandclr b => packWord [(0x2, 124), (b.val, 122)]
  | .classify d => packWord [(0x3, 124), (d.toNat, 108)]
  | .classifyp i => packWord [(0x4, 124), (i.toNat, 108)]
  | .decode nbits count start smin smax lmin lmax =>
    packWord [(0x5, 124), (nbits.toNat, 116), (count.toNat, 100), (start.toNat, 84), (smin.toNat, 68), (smax.toNat, 52),
      (lmin.toNat, 36), (lmax.toNat, 20)]
  | .gate lo hi => packWord [(0x6, 124), (lo.toNat, 108), (hi.toNat, 92)]
  | .chksum lo hi => packWord [(0x7, 124), (lo.toNat, 116), (hi.toNat, 108)]
  | .rxchk => packWord [(0x8, 124)]
  | .emit proto => packWord [(0x9, 124), (proto.toNat, 116)]
  | .consume z => packWord [(0xA, 124), (z.toNat, 123)]
  | .dedup fp now window => packWord [(0xB, 124), (fp.toNat, 92), (now.toNat, 60), (window.toNat, 44)]
  | .txbuild id node code => packWord [(0xC, 124), (id.toNat, 100), (node.toNat, 92), (code.toNat, 76)]
  | .txframe primed => packWord [(0xD, 124), (primed.toNat, 123)]
  | .txsend id node token => packWord [(0xE, 124), (id.toNat, 100), (node.toNat, 92), (token.toNat, 89)]
  | .reserved0 => packWord [(0x0, 124)]
  | .reservedF => packWord [(0xF, 124)]

/-- How many low bits of an operation's command word are unused: R81's last column. -/
def unusedBits : Instr → Nat
  | .band _ _ _ => 90
  | .bandclr _ => 122
  | .classify _ => 108
  | .classifyp _ => 108
  | .decode _ _ _ _ _ _ _ => 20
  | .gate _ _ => 92
  | .chksum _ _ => 108
  | .rxchk => 124
  | .emit _ => 116
  | .consume _ => 123
  | .dedup _ _ _ => 44
  | .txbuild _ _ _ => 76
  | .txframe _ => 123
  | .txsend _ _ _ => 89
  | .reserved0 => 124
  | .reservedF => 124

/-- The command word an opcode-table row's bits stand for: the table numbers the bits as CW is numbered, and the bits above
`nbits` are 0 (log 19). -/
def tableWord (nbits w : Nat) : CommandWord := BitVec.ofNat 128 (w % 2 ^ nbits)

/-- The operation read from a row's bits. There is one length, 128 bits (R80): a longer word is refused. -/
def decodeTableWord (nbits w : Nat) : Option Instr :=
  if nbits ≤ 128 then some (decode (tableWord nbits w)) else none

end Sys2Proof
end

