-- ==== Sys2Proof/Machine/State.lean ====
section
/-! DEFINITION. Machine/State.lean: everything the spec gives the block, as plain data (10_state.md), and the model's own
bookkeeping (the inputs still to come, the counter behind the free values). -/

namespace Sys2Proof.Machine

/-- Reject reasons, ST.REASON (30_encoding.md R85). Code 7 is reserved and never written. -/
inductive Reason where
  | none | count | timing | exhausted | header | checksum | token
deriving DecidableEq, Repr

/-- ConfigFault causes, CFGCAUSE (30_encoding.md R86). Code 0 means no ConfigFault since reset. -/
inductive Cause where
  | reservedOp | operandRange | multZero | bandArith | bandOverlap | bufferState
deriving DecidableEq, Repr

/-- The command enumeration (30_encoding.md R88). -/
inductive Command where
  | unknown | up | down | stop | release
deriving DecidableEq, Repr

/-- A band register B[i] (10_state.md R23). -/
structure Band where
  v : Bool
  min : Sample
  max : Sample
deriving DecidableEq, Repr

/-- A segment of the output line: level (1 is high) and duration in microseconds (00_scope.md R9). -/
structure Segment where
  high : Bool
  us : Nat
deriving DecidableEq, Repr

/-- An event record (30_encoding.md R96); `cmd` in the encoding of R88. -/
structure EventRecord where
  proto : BitVec 8
  id : BitVec 24
  node : BitVec 8
  cmd : BitVec 3
deriving DecidableEq, Repr

/-- A memory of 10_state.md R31: (element index, element) pairs, indices strictly rising (`Memory.wf`, Machine/Ops.lean).
A listed element holds what was last written to it; an unlisted one has been written by nothing since reset and has no value
of its own (log 7, log 15). `Memory 8` is a list of `Host.Cell`. -/
abbrev Memory (w : Nat) := List (Nat × BitVec w)

/-- What one CAPTURE step of the capture layer writes (20_memory.md R66; log 4): elements of PULSE, in order, and each
register it may write, or `none` where it leaves the register alone. -/
structure Capture where
  pulses : List (Nat × Sample)
  number : Option (BitVec 16)
  multiply : Option (BitVec 16)
  repeats : Option Bool
  hash : Option (BitVec 32)
  hashPrev : Option (BitVec 32)
deriving DecidableEq, Repr

/-- A step of the total order of 20_memory.md R68. -/
inductive Input where
  /-- The host presents a command word (30_encoding.md R80). -/
  | op (cw : CommandWord)
  /-- The capture layer's step (20_memory.md R66). -/
  | capture (c : Capture)
  /-- Reset (70_reset_and_hazards.md R271). -/
  | reset
deriving DecidableEq, Repr

/-- The state (10_state.md R20). -/
structure State where
  /-- ST, register 0 (R21). -/
  st : BitVec 8
  /-- CFGCAUSE, register 1 (R30). -/
  cfgCause : BitVec 4
  /-- MULTIPLY, register 2 (R22). -/
  multiply : BitVec 16
  /-- NUMBER, register 3 (R22). -/
  number : BitVec 16
  /-- REPEATS, register 4 (R22). -/
  repeats : Bool
  /-- B[0] to B[3], registers 5 to 8 (R23). -/
  bands : Vector Band 4
  /-- MATCH, register 9 (R24). -/
  matchReg : BitVec 3
  /-- FB_BITS, register 10 (R25). -/
  fbBits : BitVec 8
  /-- SUM, register 11 (R25). -/
  sum : BitVec 8
  /-- RXID, register 12 (R26). -/
  rxId : BitVec 24
  /-- RXNODE, register 13 (R26). -/
  rxNode : BitVec 8
  /-- RXCODE, register 14 (R26). -/
  rxCode : BitVec 16
  /-- RXCMD, register 15 (R26). -/
  rxCmd : BitVec 3
  /-- RXVALID, register 16 (R26). -/
  rxValid : Bool
  /-- FP_LAST, register 17 (R27). -/
  fpLast : BitVec 32
  /-- T_LAST, register 18 (R27). -/
  tLast : BitVec 32
  /-- FP_VALID, register 19 (R27). -/
  fpValid : Bool
  /-- HASH, register 20 (R28). -/
  hash : BitVec 32
  /-- HASH_PREV, register 21 (R28). -/
  hashPrev : BitVec 32
  /-- TXF_VALID, register 22 (R29). -/
  txfValid : Bool
  /-- LINE, register 23 (R29). -/
  line : Bool
  /-- PULSE (R31). -/
  pulse : Memory 16
  /-- FB (R31). -/
  fb : Memory 8
  /-- TXF (R31). -/
  txf : Memory 8
  /-- TRACE (R32; 00_scope.md R9). -/
  trace : List Segment
  /-- EVENTS (R32; 00_scope.md R9). -/
  events : List EventRecord
  /-- MODEL'S OWN (log 2): the inputs still to come in the total order of 20_memory.md R68, the next one first. -/
  pending : List Input
  /-- MODEL'S OWN (log 10): the next draw, the argument of the free values of Config. -/
  draws : Nat
  /-- MODEL'S OWN (log 10): the draw of the last reset. -/
  epoch : Nat
deriving DecidableEq, Repr

/-- What stops a step. -/
inductive Fault where
  /-- Raised by `step` alone, on a CAPTURE input outside the write set 20_memory.md R66 gives the capture layer (a PULSE
  index at or above PULSE_MAX, a NUMBER above PULSE_MAX); no operation raises it. SAFE: the capture layer cannot do this
  (91_not_in_source.md N3), and the model gives such an input no state after it (log 4). -/
  | captureOutOfRange
deriving DecidableEq, Repr

/-- Why an operation has no meaning. -/
inductive Refusal where
  /-- Raised by an arm of `exec` whose operation has no meaning yet, with the operation's mnemonic; no arm does so now.
  SAFE: a claim about the operation's next state cannot be proved. -/
  | notModelled (mnemonic : String)
deriving DecidableEq, Repr

/-- How a step of this machine ends. -/
abbrev Answer := Host.Outcome State Fault Refusal

/-- The state right after the reset that takes draw `n` (10_state.md R37): the values R37 gives, and for what R37 calls
unspecified the free values of that draw (log 6, log 7). -/
def State.resetAt (n : Nat) : State where
  st := 0x00
  cfgCause := 0
  multiply := 0
  number := 0
  repeats := false
  bands := #v[⟨false, Config.resetBandMin n 0, Config.resetBandMax n 0⟩,
    ⟨false, Config.resetBandMin n 1, Config.resetBandMax n 1⟩,
    ⟨false, Config.resetBandMin n 2, Config.resetBandMax n 2⟩,
    ⟨false, Config.resetBandMin n 3, Config.resetBandMax n 3⟩]
  matchReg := 4
  fbBits := 0
  sum := Config.resetSum n
  rxId := Config.resetRxId n
  rxNode := Config.resetRxNode n
  rxCode := Config.resetRxCode n
  rxCmd := BitVec.ofNat 3 (Config.resetRxCmd n).val
  rxValid := false
  fpLast := Config.resetFpLast n
  tLast := Config.resetTLast n
  fpValid := false
  hash := Config.resetHash n
  hashPrev := Config.resetHashPrev n
  txfValid := false
  line := false
  pulse := []
  fb := []
  txf := []
  trace := []
  events := []
  pending := []
  draws := n + 1
  epoch := n

/-- The machine right after reset, nothing presented to it yet. -/
def State.reset : State := State.resetAt 0

end Sys2Proof.Machine
end

