-- ==== Sys2Proof/Machine/Flags.lean ====
section
/-! DEFINITION. Machine/Flags.lean: the status word, the codes it carries, and the conditions the operations report in it. -/

namespace Sys2Proof.Machine

/-! ## Codes -/

/-- ST.REASON codes (30_encoding.md R85). -/
def Reason.code : Reason → BitVec 3
  | .none => 0
  | .count => 1
  | .timing => 2
  | .exhausted => 3
  | .header => 4
  | .checksum => 5
  | .token => 6

/-- CFGCAUSE codes (30_encoding.md R86). -/
def Cause.code : Cause → BitVec 4
  | .reservedOp => 1
  | .operandRange => 2
  | .multZero => 3
  | .bandArith => 4
  | .bandOverlap => 5
  | .bufferState => 6

/-- Command codes (30_encoding.md R88). -/
def Command.code : Command → BitVec 3
  | .unknown => 0
  | .up => 1
  | .down => 2
  | .stop => 3
  | .release => 4

/-! ## The status word ST (10_state.md R21) -/

/-- Bit 0, OK. -/
def statusOk (st : BitVec 8) : Bool := st.getLsbD 0
/-- Bit 1, DUP. -/
def statusDup (st : BitVec 8) : Bool := st.getLsbD 1
/-- Bits 4:2, REASON. -/
def statusReason (st : BitVec 8) : BitVec 3 := st.extractLsb' 2 3
/-- Bits 6:5, reserved. -/
def statusReserved (st : BitVec 8) : BitVec 2 := st.extractLsb' 5 2
/-- Bit 7, CFGERR. -/
def statusCfgErr (st : BitVec 8) : Bool := st.getLsbD 7

/-- ST after an operation that completes: OK, DUP and REASON written, CFGERR and the reserved bits as they were (R21). -/
def statusAnswer (st : BitVec 8) (ok dup : Bool) (r : Reason) : BitVec 8 :=
  (st &&& 0xE0#8) ||| (r.code.setWidth 8 <<< 2) ||| ((BitVec.ofBool dup).setWidth 8 <<< 1) |||
    (BitVec.ofBool ok).setWidth 8

/-- ST after a ConfigFault: CFGERR set, every other bit as it was (R21; 60_exceptions.md R246). -/
def statusMark (st : BitVec 8) : BitVec 8 := st ||| 0x80#8

/-- ST.OK. -/
def State.ok (s : State) : Bool := statusOk s.st
/-- ST.DUP. -/
def State.dup (s : State) : Bool := statusDup s.st
/-- ST.REASON. -/
def State.reason (s : State) : BitVec 3 := statusReason s.st
/-- ST.CFGERR. -/
def State.cfgErr (s : State) : Bool := statusCfgErr s.st

/-! ## Conditions -/

/-- Membership of a sample in a band: both limits belong to it (40_classifier.md R111; BOUND_INCLUSIVE, D5). -/
def inBand (d lo hi : Sample) : Bool :=
  if Config.boundInclusive then decide (lo ≤ d) && decide (d ≤ hi) else decide (lo < d) && decide (d < hi)

/-- Overlap of two bands (40_classifier.md R112). -/
def overlap (lo1 hi1 lo2 hi2 : Sample) : Bool :=
  decide (max lo1.toNat lo2.toNat ≤ min hi1.toNat hi2.toNat)

/-- The byte sum modulo 256 (42_frame_check.md R152). -/
def byteSum (xs : List Byte) : Byte := BitVec.ofNat 8 ((xs.map BitVec.toNat).sum % 256)

/-- The age of a timestamp, the 32-bit wrapping difference (43_dedup.md R181). -/
def age (now last : BitVec 32) : BitVec 32 := now - last

/-- A repeat is inside the window while its age is at most the window (43_dedup.md R182). -/
def inWindow (now last : BitVec 32) (window : BitVec 16) : Bool :=
  decide ((age now last).toNat ≤ window.toNat)

/-- The gate on the pulse count, both ends included (42_frame_check.md R151). -/
def inGate (number lo hi : BitVec 16) : Bool := decide (lo ≤ number) && decide (number ≤ hi)

/-- The command mapping over given codes (42_frame_check.md R154). -/
def cmdMapWith (codes : Config.CmdCodes) (c : BitVec 16) : Command :=
  if c = Config.cmdUp then .up
  else if c = codes.down then .down
  else if c = codes.stop then .stop
  else if c = codes.release then .release
  else .unknown

/-- The command mapping of the illustrated frame (R154); three of its codes are OPEN (log 12). -/
def cmdMap (c : BitVec 16) : Command := cmdMapWith Config.cmdCodes c

/-- The raw code a TXSEND token stands for, over given codes (44_tx_encoder.md R201): Up, Down and Stop have one, no other
token does. -/
def txCodeWith (codes : Config.CmdCodes) (token : BitVec 3) : Option (BitVec 16) :=
  if token = Command.up.code then some Config.cmdUp
  else if token = Command.down.code then some codes.down
  else if token = Command.stop.code then some codes.stop
  else none

end Sys2Proof.Machine
end

