-- ==== Sys2Proof/Machine/Ops.lean ====
section
/-! DEFINITION. Machine/Ops.lean: the shared operations. Memories, the ends of an operation (`done`, `reject`,
`raise ConfigFault`), the free draws, the histories. -/

namespace Sys2Proof.Machine

/-! ## Memories (10_state.md R31; 20_memory.md R60) -/

/-- The canonical form of a memory of `size` elements: indices strictly rising and below `size`. An unlisted element has no
value of its own, so no entry can equal one, and equal memories are equal lists. -/
abbrev Memory.wf {w : Nat} (size : Nat) (m : Memory w) : Prop :=
  (m.map Prod.fst).Pairwise (· < ·) ∧ ∀ i ∈ m.map Prod.fst, i < size

/-- The element at an index, `none` where nothing has written it since reset. -/
def Memory.read? {w : Nat} : Memory w → Nat → Option (BitVec w)
  | [], _ => none
  | (j, u) :: m, i => if i = j then some u else Memory.read? m i

/-- Write one element (00_scope.md R7, `MemWrite(space, index, 1, v)`). -/
def Memory.write {w : Nat} : Memory w → Nat → BitVec w → Memory w
  | [], i, v => [(i, v)]
  | (j, u) :: m, i, v =>
    if i < j then (i, v) :: (j, u) :: m
    else if i = j then (i, v) :: m
    else (j, u) :: Memory.write m i v

/-- Elements from index `k` on, one after another. -/
def Memory.listFrom {w : Nat} : Nat → List (BitVec w) → Memory w
  | _, [] => []
  | k, x :: xs => (k, x) :: Memory.listFrom (k + 1) xs

/-- The memory every element of which is written, from index 0 on: what writing all of a memory leaves. -/
def Memory.ofList {w : Nat} (xs : List (BitVec w)) : Memory w := Memory.listFrom 0 xs

/-- PULSE[i] (R7). Where nothing has written the element since reset: a free value (log 7). -/
def pulseAt (s : State) (i : Nat) : Sample := (Memory.read? s.pulse i).getD (Config.unwrittenPulse s.epoch i)

/-- FB[j] (R7). Where nothing has written the element since reset: a free value (log 7). -/
def fbAt (s : State) (j : Nat) : Byte := (Memory.read? s.fb j).getD (Config.unwrittenFb s.epoch j)

/-- TXF[j] (R7). Where nothing has written the element since reset: a free value (log 7). -/
def txfAt (s : State) (j : Nat) : Byte := (Memory.read? s.txf j).getD (Config.unwrittenTxf s.epoch j)

/-- Bit `k` of the bit sequence a byte memory holds is bit `7 - (k mod 8)` of byte `k div 8` (20_memory.md R62). -/
def fbBit (s : State) (k : Nat) : Bool := (fbAt s (k / 8)).getLsbD (7 - k % 8)

/-- The same of TXF (20_memory.md R62). -/
def txfBit (s : State) (k : Nat) : Bool := (txfAt s (k / 8)).getLsbD (7 - k % 8)

/-- FB[j] <- v. -/
def fbWrite (j : Nat) (v : Byte) (s : State) : State := { s with fb := Memory.write s.fb j v }

/-! ## Band registers -/

/-- B[i] <- x, all three fields (10_state.md R23). -/
def setBand (i : Fin 4) (x : Band) (s : State) : State := { s with bands := s.bands.set i x }

/-- B[i]. -/
def band (s : State) (i : Fin 4) : Band := s.bands.get i

/-! ## The ends of an operation (00_scope.md R8) -/

/-- The writes to ST of an operation that completes. -/
def setAnswer (ok dup : Bool) (r : Reason) (s : State) : State := { s with st := statusAnswer s.st ok dup r }

/-- `done` of every operation but a DEDUP that found a duplicate: OK 1, DUP 0, REASON 0. -/
def done (s : State) : Answer := .next (setAnswer true false .none s)

/-- `done` of a DEDUP that found a duplicate: OK 1, DUP 1, REASON 0 (43_dedup.md R181). -/
def doneDup (s : State) : Answer := .next (setAnswer true true .none s)

/-- `reject R`: OK 0, DUP 0, REASON R. -/
def reject (r : Reason) (s : State) : Answer := .next (setAnswer false false r s)

/-- The effect of a ConfigFault (60_exceptions.md R246, 10_state.md R30): the first cause is kept, CFGERR is set, nothing else
changes. -/
def markConfigFault (c : Cause) (s : State) : State :=
  { s with st := statusMark s.st, cfgCause := if s.cfgErr then s.cfgCause else c.code }

/-- `raise ConfigFault(cause)`, the block's one exceptional outcome (R246). It is a next state: "later operations execute
normally" (log 1). -/
def raise (c : Cause) (s : State) : Answer := .next (markConfigFault c s)

/-! ## Free draws -/

/-- Every byte of FB <- unspecified value, FB_BITS <- 0 (41_pwm_decoder.md R132; log 8). -/
def forgetFb (s : State) : State :=
  { s with
    fb := Memory.ofList ((List.range Config.frameMax).map (Config.rejectedFb s.draws))
    fbBits := 0
    draws := s.draws + 1 }

/-- RXVALID <- 0, the other frame-check registers unspecified (42_frame_check.md R155, 10_state.md R26; log 9). -/
def forgetRx (s : State) : State :=
  { s with
    rxValid := false
    rxId := Config.rejectedRxId s.draws
    rxNode := Config.rejectedRxNode s.draws
    rxCode := Config.rejectedRxCode s.draws
    rxCmd := BitVec.ofNat 3 (Config.rejectedRxCmd s.draws).val
    draws := s.draws + 1 }

/-! ## Histories (00_scope.md R9) -/

/-- `seg(l, t)`: a segment of no length is not recorded and does not move the line. -/
def seg (x : Segment) (s : State) : State :=
  if 0 < x.us then { s with trace := s.trace ++ [x], line := x.high } else s

/-- Segments driven one after another. -/
def drive (xs : List Segment) (s : State) : State := xs.foldl (fun s x => seg x s) s

/-- `emit(r)`. -/
def emitRecord (r : EventRecord) (s : State) : State := { s with events := s.events ++ [r] }

/-! ## Sequences of operations -/

/-- Go on with `f` where an operation ended with a next state; stop where it stopped. -/
def andThen {α : Type} (a : Answer) (f : State → Host.Outcome α Fault Refusal) : Host.Outcome α Fault Refusal :=
  match a with
  | .next s => f s
  | .fault e => .fault e
  | .refused e => .refused e

end Sys2Proof.Machine
end

