-- ==== Sys2Proof/Machine/Operands.lean ====
section
/-! DEFINITION. Machine/Operands.lean: what the operations compute from their operands and the buffers before they write. -/

namespace Sys2Proof.Machine

/-! ## Band limits (40_classifier.md R113) -/

/-- The lower limit in sample units: (nominal - tol) div MULTIPLY, on natural numbers. -/
def bandMin (multiply nominal tol : BitVec 16) : Sample :=
  BitVec.ofNat 16 ((nominal.toNat - tol.toNat) / multiply.toNat)

/-- The upper limit in sample units: (nominal + tol) div MULTIPLY, on natural numbers. -/
def bandMax (multiply nominal tol : BitVec 16) : Sample :=
  BitVec.ofNat 16 ((nominal.toNat + tol.toNat) / multiply.toNat)

/-! ## The configured bands (40_classifier.md R115) -/

/-- The pairs i < j of band indices. -/
def bandPairs : List (Fin 4 × Fin 4) := [(0, 1), (0, 2), (0, 3), (1, 2), (1, 3), (2, 3)]

/-- Some two configured bands overlap. -/
def bandsOverlap (s : State) : Bool :=
  bandPairs.any fun p =>
    (band s p.1).v && (band s p.2).v &&
      overlap (band s p.1).min (band s p.1).max (band s p.2).min (band s p.2).max

/-- Band `i` is configured and holds the sample. -/
def hits (d : Sample) (s : State) (i : Fin 4) : Bool := (band s i).v && inBand d (band s i).min (band s i).max

/-- The band that holds the sample: with the overlap check passed at most one does, and the lowest index is that one
(R115; log 16). -/
def matchingBand (d : Sample) (s : State) : Option (Fin 4) :=
  ([0, 1, 2, 3] : List (Fin 4)).find? (hits d s)

/-! ## One examined pulse of DECODE (41_pwm_decoder.md R132, R133; 30_encoding.md R93) -/

/-- The band limits DECODE takes as operands. -/
structure PwmBands where
  smin : Sample
  smax : Sample
  lmin : Sample
  lmax : Sample
deriving DecidableEq, Repr

/-- The bit a sample stands for, `none` where it is in neither band; the short band is tried first. -/
def pulseBit (b : PwmBands) (d : Sample) : Option Bool :=
  if inBand d b.smin b.smax then some (!Config.longIsOne)
  else if inBand d b.lmin b.lmax then some Config.longIsOne
  else none

/-- Bit `k`: EXHAUSTED is tested before TIMING (60_exceptions.md R247). The index is a natural number and cannot wrap. -/
def examineBit (b : PwmBands) (count start : BitVec 16) (s : State) (k : Nat) : Except Reason Bool :=
  if count.toNat ≤ start.toNat + Config.stride * k then .error .exhausted
  else
    match pulseBit b (pulseAt s (start.toNat + Config.stride * k)) with
    | some bit => .ok bit
    | none => .error .timing

/-- FB[k div 8] <- FB[k div 8] | (bit << (7 - (k mod 8))) (R132). -/
def orBit (k : Nat) (bit : Bool) (s : State) : State :=
  fbWrite (k / 8) (fbAt s (k / 8) ||| ((BitVec.ofBool bit).setWidth 8 <<< (7 - k % 8))) s

/-- Every byte of FB <- 0x00, FB_BITS <- 0 (R132, R134). -/
def clearFb (s : State) : State :=
  { s with fb := Memory.ofList (List.replicate Config.frameMax 0x00), fbBits := 0 }

/-- The loop of R132: `n` more bits from bit `k` on. -/
def decodeBits (b : PwmBands) (count start : BitVec 16) : Nat → Nat → State → Except Reason State
  | 0, _, s => .ok s
  | n + 1, k, s =>
    match examineBit b count start s k with
    | .error r => .error r
    | .ok bit => decodeBits b count start n (k + 1) (orBit k bit s)

/-! ## Bytes of FB (42_frame_check.md) -/

/-- FB[lo], FB[lo + 1], ..., FB[hi] (R153). -/
def fbRange (s : State) (lo hi : Nat) : List Byte := (List.range (hi + 1 - lo)).map fun j => fbAt s (lo + j)

/-- The byte sum of bytes 1 to 6 of the frame in FB (R152, R155). -/
def frameSum (s : State) : Byte := byteSum (fbRange s 1 6)

/-- The 24-bit identifier, FB[1] most significant (R155; 20_memory.md R63). -/
def frameId (s : State) : BitVec 24 := fbAt s 1 ++ fbAt s 2 ++ fbAt s 3

/-- The 16-bit command code, FB[5] most significant (R155; 20_memory.md R63). -/
def frameCode (s : State) : BitVec 16 := fbAt s 5 ++ fbAt s 6

/-! ## The duplicate test (43_dedup.md R181 to R183) -/

/-- Same fingerprint, inside the window and, where the parameter asks for it, an unchanged signal hash. -/
def isDuplicate (hashGates : Bool) (fp now : BitVec 32) (window : BitVec 16) (s : State) : Bool :=
  (s.fpValid && fp == s.fpLast) && (s.fpValid && inWindow now s.tLast window) &&
    (!hashGates || s.hash == s.hashPrev)

/-- The default of FP_FN that the test vectors use (43_dedup.md R186); the model's own FP_FN is `Config.fpFn` (log 13). -/
def fpDefault (id : BitVec 24) (node : BitVec 8) (code : BitVec 16) : BitVec 32 :=
  (id ++ node) ^^^ code.setWidth 32

/-! ## The transmit frame (30_encoding.md R90; 44_tx_encoder.md R202) -/

/-- The nine bytes of a frame. -/
def frameBytes (id : BitVec 24) (node : BitVec 8) (code : BitVec 16) : List Byte :=
  [Config.txHeader, id.extractLsb' 16 8, id.extractLsb' 8 8, id.extractLsb' 0 8, node, code.extractLsb' 8 8,
    code.extractLsb' 0 8,
    byteSum [id.extractLsb' 16 8, id.extractLsb' 8 8, id.extractLsb' 0 8, node, code.extractLsb' 8 8,
      code.extractLsb' 0 8],
    Config.txTrailer]

/-! ## Segments (44_tx_encoder.md R203, R205; 30_encoding.md R92) -/

/-- `emit_bit`: the pulse pair of a data bit, high segment first (R205). -/
def bitPair (t : Config.TxTiming) (bit : Bool) : List Segment :=
  if bit = Config.longIsOne then [⟨true, t.tLong⟩, ⟨false, t.tShort⟩] else [⟨true, t.tShort⟩, ⟨false, t.tLong⟩]

/-- The wake preamble (R203). -/
def wakePreamble (t : Config.TxTiming) : List Segment :=
  (List.replicate Config.wakePairs [⟨true, t.tWakeHigh⟩, ⟨false, t.tWakeLow⟩]).flatten

/-- The sync pulse (R203). -/
def syncPulse (t : Config.TxTiming) : List Segment := [⟨true, t.tSyncHigh⟩, ⟨false, t.tSyncLow⟩]

/-- The segments `emit_frame(primed)` hands to `seg`, for a frame whose bit `k` is `bits k` (R203). -/
def frameSegments (t : Config.TxTiming) (primed : Bool) (bits : Nat → Bool) : List Segment :=
  (if primed then wakePreamble t else []) ++ syncPulse t ++
    (List.range Config.txDataBits).flatMap (fun k => bitPair t (bits k)) ++ [⟨false, t.tGap⟩]

/-! ## The physical line (44_tx_encoder.md R211) -/

/-- Neighbouring segments of equal level as one longer pulse, for comparing line behaviour. -/
def mergeLevels : List Segment → List Segment
  | [] => []
  | x :: xs =>
    match mergeLevels xs with
    | [] => [x]
    | y :: ys => if x.high = y.high then ⟨x.high, x.us + y.us⟩ :: ys else x :: y :: ys

/-- How long a list of segments lasts, in microseconds (R210). -/
def duration (xs : List Segment) : Nat := (xs.map Segment.us).sum

end Sys2Proof.Machine
end

