-- ==== Sys2Proof/Machine/Classifier.lean ====
section
/-! DEFINITION. Machine/Classifier.lean: BAND, BANDCLR, CLASSIFY, CLASSIFYP (40_classifier.md). -/

namespace Sys2Proof.Machine

/-- BAND (R113). -/
def execBand (b : Fin 4) (nominal tol : BitVec 16) (s : State) : Answer :=
  if s.multiply = 0 then raise .multZero s
  else if nominal.toNat < tol.toNat then raise .bandArith s
  else if 65535 < nominal.toNat + tol.toNat then raise .bandArith s
  else done (setBand b ⟨true, bandMin s.multiply nominal tol, bandMax s.multiply nominal tol⟩ s)

/-- BANDCLR (R114): MIN and MAX keep their values. -/
def execBandclr (b : Fin 4) (s : State) : Answer := done (setBand b { band s b with v := false } s)

/-- Classify a sample (R115): the overlap check whatever the sample is, then the answer in MATCH. -/
def classifySample (d : Sample) (s : State) : Answer :=
  if bandsOverlap s then raise .bandOverlap s
  else
    match matchingBand d s with
    | some i => done { s with matchReg := BitVec.ofNat 3 i.val }
    | none => reject .timing { s with matchReg := 4 }

/-- CLASSIFY (R115). -/
def execClassify (d : Sample) (s : State) : Answer := classifySample d s

/-- CLASSIFYP (R116): the index check, then as CLASSIFY. -/
def execClassifyp (i : BitVec 16) (s : State) : Answer :=
  if s.number.toNat ≤ i.toNat then raise .bufferState s else classifySample (pulseAt s i.toNat) s

end Sys2Proof.Machine
end

