-- ==== Sys2Proof/Machine/Dedup.lean ====
section
/-! DEFINITION. Machine/Dedup.lean: DEDUP (43_dedup.md). -/

namespace Sys2Proof.Machine

/-- DEDUP over a given HASH_GATES_DUP (R181, R183): a known repeat changes nothing but ST; anything else is remembered with
its time (R184). -/
def dedupWith (hashGates : Bool) (fp now : BitVec 32) (window : BitVec 16) (s : State) : Answer :=
  if isDuplicate hashGates fp now window s then doneDup s
  else done { s with fpLast := fp, tLast := now, fpValid := true }

/-- DEDUP (R181). -/
def execDedup (fp now : BitVec 32) (window : BitVec 16) (s : State) : Answer :=
  dedupWith Config.hashGatesDup fp now window s

end Sys2Proof.Machine
end

