-- ==== Sys2Proof/Machine/FrameCheck.lean ====
section
/-! DEFINITION. Machine/FrameCheck.lean: GATE, CHKSUM, RXCHK, EMIT, CONSUME (42_frame_check.md). -/

namespace Sys2Proof.Machine

/-- GATE (R151). -/
def execGate (lo hi : BitVec 16) (s : State) : Answer :=
  if inGate s.number lo hi then done s else reject .count s

/-- CHKSUM (R153). -/
def execChksum (lo hi : BitVec 8) (s : State) : Answer :=
  if hi.toNat < lo.toNat then raise .operandRange s
  else if s.fbBits.toNat ≤ 8 * hi.toNat then raise .bufferState s
  else done { s with sum := byteSum (fbRange s lo.toNat hi.toNat) }

/-- RXCHK (R155): SUM is written on every completing path; the header is checked before the checksum. -/
def execRxchk (s : State) : Answer :=
  if s.fbBits.toNat < 64 then raise .bufferState s
  else if fbAt s 0 ≠ Config.txHeader then reject .header (forgetRx { s with sum := frameSum s })
  else if frameSum s ≠ fbAt s 7 then reject .checksum (forgetRx { s with sum := frameSum s })
  else
    done { s with
      sum := frameSum s
      rxId := frameId s
      rxNode := fbAt s 4
      rxCode := frameCode s
      rxCmd := (cmdMap (frameCode s)).code
      rxValid := true }

/-- EMIT (R158): a Release appends no record (R157). -/
def execEmit (proto : BitVec 8) (s : State) : Answer :=
  if s.rxValid then
    if s.rxCmd = Command.release.code then done s
    else done (emitRecord ⟨proto, s.rxId, s.rxNode, s.rxCmd⟩ s)
  else raise .bufferState s

/-- CONSUME (R159). -/
def execConsume (z : Bool) (s : State) : Answer :=
  done { s with repeats := true, number := if z then 0 else s.number }

end Sys2Proof.Machine
end

