-- ==== Sys2Proof/Machine/Pwm.lean ====
section
/-! DEFINITION. Machine/Pwm.lean: DECODE (41_pwm_decoder.md). -/

namespace Sys2Proof.Machine

/-- DECODE: the checks of R131 in their order, then the loop of R132. A failing decode leaves FB unspecified and FB_BITS 0. -/
def execDecode (nbits : BitVec 8) (count start smin smax lmin lmax : BitVec 16) (s : State) : Answer :=
  if 8 * Config.frameMax < nbits.toNat then raise .operandRange s
  else if s.number.toNat < count.toNat then raise .bufferState s
  else if overlap smin smax lmin lmax then raise .bandOverlap s
  else
    match decodeBits ⟨smin, smax, lmin, lmax⟩ count start nbits.toNat 0 (clearFb s) with
    | .ok t => done { t with fbBits := nbits }
    | .error r => reject r (forgetFb s)

end Sys2Proof.Machine
end

