-- ==== Sys2Proof/Machine/Reserved.lean ====
section
/-! DEFINITION. Machine/Reserved.lean: the reserved select codes (30_encoding.md R83). -/

namespace Sys2Proof.Machine

/-- Select code 0x0 (R83): ConfigFault(RESERVED_OP) and nothing else. -/
def execReserved0 (s : State) : Answer := raise .reservedOp s

/-- Select code 0xF (R83): ConfigFault(RESERVED_OP) and nothing else. -/
def execReservedF (s : State) : Answer := raise .reservedOp s

end Sys2Proof.Machine
end

