-- ==== Sys2Proof/Machine/Transmit.lean ====
section
/-! DEFINITION. Machine/Transmit.lean: TXBUILD, TXFRAME, TXSEND (44_tx_encoder.md). -/

namespace Sys2Proof.Machine

/-- `build`: the nine byte writes and the TXF_VALID write (R202). TXF has nine elements, so all of it is written. -/
def buildFrame (id : BitVec 24) (node : BitVec 8) (code : BitVec 16) (s : State) : State :=
  { s with txf := Memory.ofList (frameBytes id node code), txfValid := true }

/-- TXBUILD (R202). -/
def execTxbuild (id : BitVec 24) (node : BitVec 8) (code : BitVec 16) (s : State) : Answer :=
  done (buildFrame id node code s)

/-- `emit_frame(primed)`: the frame now in TXF onto the line (R203). -/
def emitFrame (t : Config.TxTiming) (primed : Bool) (s : State) : State :=
  drive (frameSegments t primed (txfBit s)) s

/-- `n` bare repeats (R206). -/
def emitBare (t : Config.TxTiming) : Nat → State → State
  | 0, s => s
  | n + 1, s => emitBare t n (emitFrame t false s)

/-- One frame primed or bare, then `n` bare repeats (R206). -/
def emitSequence (t : Config.TxTiming) (primed : Bool) (n : Nat) (s : State) : State :=
  emitBare t n (emitFrame t primed s)

/-- TXFRAME (R204). -/
def execTxframe (primed : Bool) (s : State) : Answer :=
  if s.txfValid then done (emitFrame Config.txTiming primed s) else raise .bufferState s

/-- The release sequence after a sustained command (R206, R207). -/
def emitRelease (t : Config.TxTiming) (codes : Config.CmdCodes) (id : BitVec 24) (node : BitVec 8) (s : State) : State :=
  emitSequence t Config.releasePrimed Config.nReleaseRepeats
    (buildFrame id node codes.release (seg ⟨false, t.tReleaseDelay⟩ s))

/-- TXSEND over given durations and codes (R206). -/
def txsendWith (t : Config.TxTiming) (codes : Config.CmdCodes) (id : BitVec 24) (node : BitVec 8) (token : BitVec 3)
    (s : State) : Answer :=
  match txCodeWith codes token with
  | none => reject .token s
  | some code =>
    if token = Command.stop.code then done (emitSequence t true Config.nRepeats (buildFrame id node code s))
    else done (emitRelease t codes id node (emitSequence t true Config.nRepeats (buildFrame id node code s)))

/-- TXSEND (R206). -/
def execTxsend (id : BitVec 24) (node : BitVec 8) (token : BitVec 3) (s : State) : Answer :=
  txsendWith Config.txTiming Config.cmdCodes id node token s

end Sys2Proof.Machine
end

