-- ==== Sys2Proof/Machine/Dispatch.lean ====
section
/-! DEFINITION. Machine/Dispatch.lean: one arm per operation (30_encoding.md R82). -/

namespace Sys2Proof.Machine

def exec (i : Instr) (s : State) : Host.Outcome State Fault Refusal :=
  match i with
  | .band b nominal tol => Sys2Proof.Machine.execBand b nominal tol s
  | .bandclr b => Sys2Proof.Machine.execBandclr b s
  | .classify d => Sys2Proof.Machine.execClassify d s
  | .classifyp i1 => Sys2Proof.Machine.execClassifyp i1 s
  | .decode nbits count start smin smax lmin lmax => Sys2Proof.Machine.execDecode nbits count start smin smax lmin lmax s
  | .gate lo hi => Sys2Proof.Machine.execGate lo hi s
  | .chksum lo hi => Sys2Proof.Machine.execChksum lo hi s
  | .rxchk => Sys2Proof.Machine.execRxchk s
  | .emit proto => Sys2Proof.Machine.execEmit proto s
  | .consume z => Sys2Proof.Machine.execConsume z s
  | .dedup fp now window => Sys2Proof.Machine.execDedup fp now window s
  | .txbuild id node code => Sys2Proof.Machine.execTxbuild id node code s
  | .txframe primed => Sys2Proof.Machine.execTxframe primed s
  | .txsend id node token => Sys2Proof.Machine.execTxsend id node token s
  | .reserved0 => Sys2Proof.Machine.execReserved0 s
  | .reservedF => Sys2Proof.Machine.execReservedF s

end Sys2Proof.Machine
end

