-- ==== Sys2Proof/Machine/Environment.lean ====
section
/-! DEFINITION. Machine/Environment.lean: the steps of the total order (20_memory.md R68): the host's operations, the capture
layer's CAPTURE step, reset; and how a command word is presented. -/

namespace Sys2Proof.Machine

/-- What 20_memory.md R66 lets a CAPTURE step write: elements of PULSE, a NUMBER not above PULSE_MAX. -/
def Capture.legal (c : Capture) : Bool :=
  c.pulses.all (fun p => decide (p.1 < Config.pulseMax)) &&
    c.number.all (fun n => decide (n.toNat ≤ Config.pulseMax))

/-- The writes of a CAPTURE step (R66). -/
def applyCapture (c : Capture) (s : State) : State :=
  { s with
    pulse := c.pulses.foldl (fun m p => Memory.write m p.1 p.2) s.pulse
    number := c.number.getD s.number
    multiply := c.multiply.getD s.multiply
    repeats := c.repeats.getD s.repeats
    hash := c.hash.getD s.hash
    hashPrev := c.hashPrev.getD s.hashPrev }

/-- CAPTURE (R66): a step outside the write set is none the capture layer can make (log 4). -/
def capture (c : Capture) (s : State) : Answer :=
  if c.legal then .next (applyCapture c s) else .fault .captureOutOfRange

/-- Reset (70_reset_and_hazards.md R270, R271): 10_state.md R37's values; what R37 leaves unspecified is drawn anew. The inputs
still to come are the environment's and stay (log 5). -/
def resetNow (s : State) : State := { State.resetAt s.draws with pending := s.pending }

/-- One step of the total order. -/
def perform (x : Input) (s : State) : Answer :=
  match x with
  | .op cw => exec (decode cw) s
  | .capture c => capture c s
  | .reset => .next (resetNow s)

/-- With nothing presented the block does nothing (70_reset_and_hazards.md R271; log 3). -/
def idle (s : State) : Answer := .next s

/-- The next input and the state without it. -/
def takeInput (s : State) : Option (Input × State) :=
  match s.pending with
  | [] => none
  | x :: rest => some (x, { s with pending := rest })

/-- A command word presented as the very next step (log 2). -/
def present (cw : CommandWord) (s : State) : State := { s with pending := .op cw :: s.pending }

end Sys2Proof.Machine
end

