-- ==== Sys2Proof/Machine/Step.lean ====
section
/-! DEFINITION. Machine/Step.lean: one step of the machine, the next step of the total order of 20_memory.md R68. -/

namespace Sys2Proof.Machine

/-- The next input is taken from the list and performed; with none the block waits (log 2, log 3). -/
def step (s : State) : Host.Outcome State Fault Refusal :=
  match takeInput s with
  | none => idle s
  | some (x, t) => perform x t

/-- The state in which the next step performs the command word an opcode-table row's bits stand for (log 2, log 19). -/
def State.withFetchWord (s : State) (nbits w : Nat) : State := present (tableWord nbits w) s

end Sys2Proof.Machine
end

