-- ==== Sys2Proof/Machine/HostPort.lean ====
section
/-! DEFINITION. Machine/HostPort.lean: the host's read port, by name, between operations (10_state.md R35, R31; log 20).
PULSE and TXF have no port; the histories TRACE and EVENTS are outputs and are fields of State. -/

namespace Sys2Proof.Machine

/-- The registers that hold one word, by name. -/
inductive Reg where
  | st | cfgCause | multiply | number | repeats | matchReg | fbBits | sum | rxId | rxNode | rxCode | rxCmd | rxValid
  | fpLast | tLast | fpValid | hash | hashPrev | txfValid | line
deriving DecidableEq, Repr

/-- The register numbers, labels only (10_state.md R21 to R30, R35). The band registers are 5 to 8. -/
def regNumber : Reg → Nat
  | .st => 0
  | .cfgCause => 1
  | .multiply => 2
  | .number => 3
  | .repeats => 4
  | .matchReg => 9
  | .fbBits => 10
  | .sum => 11
  | .rxId => 12
  | .rxNode => 13
  | .rxCode => 14
  | .rxCmd => 15
  | .rxValid => 16
  | .fpLast => 17
  | .tLast => 18
  | .fpValid => 19
  | .hash => 20
  | .hashPrev => 21
  | .txfValid => 22
  | .line => 23

/-- The register widths (10_state.md R21 to R30). -/
def regWidth : Reg → Nat
  | .st => 8
  | .cfgCause => 4
  | .multiply => 16
  | .number => 16
  | .repeats => 1
  | .matchReg => 3
  | .fbBits => 8
  | .sum => 8
  | .rxId => 24
  | .rxNode => 8
  | .rxCode => 16
  | .rxCmd => 3
  | .rxValid => 1
  | .fpLast => 32
  | .tLast => 32
  | .fpValid => 1
  | .hash => 32
  | .hashPrev => 32
  | .txfValid => 1
  | .line => 1

/-- The host's read of a register. -/
def readReg (s : State) : (r : Reg) → BitVec (regWidth r)
  | .st => s.st
  | .cfgCause => s.cfgCause
  | .multiply => s.multiply
  | .number => s.number
  | .repeats => BitVec.ofBool s.repeats
  | .matchReg => s.matchReg
  | .fbBits => s.fbBits
  | .sum => s.sum
  | .rxId => s.rxId
  | .rxNode => s.rxNode
  | .rxCode => s.rxCode
  | .rxCmd => s.rxCmd
  | .rxValid => BitVec.ofBool s.rxValid
  | .fpLast => s.fpLast
  | .tLast => s.tLast
  | .fpValid => BitVec.ofBool s.fpValid
  | .hash => s.hash
  | .hashPrev => s.hashPrev
  | .txfValid => BitVec.ofBool s.txfValid
  | .line => BitVec.ofBool s.line

/-- The host's read of a band register, field by field (R23). -/
def readBand (s : State) (i : Fin 4) : Band := band s i

/-- The host's read of FB by index (R31, R35). -/
def readFb (s : State) (j : Fin 16) : Byte := fbAt s j.val

end Sys2Proof.Machine
end

