-- ==== Sys2Proof/Machine/RxSeq.lean ====
section
/-! DEFINITION. Machine/RxSeq.lean: the pseudo-operation RXSEQ (30_encoding.md R95), the host-side reference receive sequence
(42_frame_check.md R160). It is no command word: it is what a host does with the operations, reading ST and RXCMD between
them (log 17). -/

namespace Sys2Proof.Machine

/-- The arguments of RXSEQ (R160). -/
structure RxSeqArgs where
  proto : BitVec 8
  smin : Sample
  smax : Sample
  lmin : Sample
  lmax : Sample
  now : BitVec 32
  window : BitVec 16
  z : Bool
deriving DecidableEq, Repr

/-- The results R160 names. -/
inductive RxResult where
  | rejected | accepted | acceptedDuplicate | acceptedNoEvent
deriving DecidableEq, Repr

/-- Issue an operation; on ST.OK = 0 the result is Rejected, otherwise go on. -/
def issueOr (i : Instr) (s : State) (k : State → Host.Outcome (RxResult × State) Fault Refusal) :
    Host.Outcome (RxResult × State) Fault Refusal :=
  andThen (exec i s) fun t => if t.ok then k t else .next (.rejected, t)

/-- Issue an operation whose ST the host does not look at, and end with the given result. -/
def issueLast (i : Instr) (r : RxResult) (s : State) : Host.Outcome (RxResult × State) Fault Refusal :=
  andThen (exec i s) fun t => .next (r, t)

/-- Steps 5 to 7 of R160, over a given FP_FN. -/
def rxSeqAccept (fpFn : BitVec 24 → BitVec 8 → BitVec 16 → BitVec 32) (a : RxSeqArgs) (s : State) :
    Host.Outcome (RxResult × State) Fault Refusal :=
  andThen (exec (.dedup (fpFn s.rxId s.rxNode s.rxCode) a.now a.window) s) fun t =>
    if t.dup then issueLast (.consume a.z) .acceptedDuplicate t
    else andThen (exec (.emit a.proto) t) (issueLast (.consume a.z) .accepted)

/-- RXSEQ over a given FP_FN (R160). -/
def rxSeqWith (fpFn : BitVec 24 → BitVec 8 → BitVec 16 → BitVec 32) (a : RxSeqArgs) (s : State) :
    Host.Outcome (RxResult × State) Fault Refusal :=
  issueOr (.gate Config.rxCountMin Config.rxCountMax) s fun s1 =>
    issueOr (.decode (BitVec.ofNat 8 Config.txDataBits) s1.number Config.rxStart a.smin a.smax a.lmin a.lmax) s1 fun s2 =>
      issueOr .rxchk s2 fun s3 =>
        if s3.rxCmd = Command.release.code then issueLast (.consume a.z) .acceptedNoEvent s3
        else rxSeqAccept fpFn a s3

/-- RXSEQ (R160). -/
def rxSeq (a : RxSeqArgs) (s : State) : Host.Outcome (RxResult × State) Fault Refusal := rxSeqWith Config.fpFn a s

end Sys2Proof.Machine
end

