-- ==== Sys2Proof/Safety.lean ====
section
/-! DEFINITION. Safety.lean: the terms claims use: the runs the spec gives a meaning (60_exceptions.md R246), and the
invariants of the state. -/

namespace Sys2Proof

open Machine

/-- No ConfigFault since reset: "Every claim about the block takes ST.CFGERR = 0 throughout as a premise" (60_exceptions.md
R246; log 1). -/
def Meaningful (s : State) : Prop := s.cfgErr = false

/-- A run of `n` steps with no ConfigFault and no stop in it: the safe runs (R246). -/
def SafeRun : Nat → State → Prop
  | 0, s => Meaningful s
  | n + 1, s => Meaningful s ∧ ∃ t, step s = .next t ∧ SafeRun n t

/-- The codes and counts the registers may hold: ST's reserved bits read 0 and REASON is never 7 (10_state.md R21, 30_encoding.md
R85), a `done` has reason NONE and only a `done` is a duplicate (R85; 60_exceptions.md R242), CFGCAUSE holds one of R86's codes
and is 0 exactly while CFGERR = 0 (10_state.md R30), MATCH and RXCMD hold no reserved code (R24, R88), NUMBER and FB_BITS stay
within their buffers (R22, R25), a valid band is not empty (93_implementation_defined.md U11), the line is low between
operations (44_tx_encoder.md R211). -/
structure RegisterInv (s : State) : Prop where
  reserved : statusReserved s.st = 0
  reason : s.reason.toNat < 7
  okReason : s.ok = true → s.reason = 0
  dupOk : s.dup = true → s.ok = true
  cause : s.cfgCause.toNat < 7
  causeMark : s.cfgErr = false ↔ s.cfgCause = 0
  matchCode : s.matchReg.toNat < 5
  rxCmdCode : s.rxCmd.toNat < 5
  number : s.number.toNat ≤ Config.pulseMax
  fbBits : s.fbBits.toNat ≤ 8 * Config.frameMax
  bands : ∀ i, (band s i).v = true → (band s i).min ≤ (band s i).max
  line : s.line = false

/-- The three memories are in their canonical form (log 15). -/
structure MemoryInv (s : State) : Prop where
  pulse : Memory.wf Config.pulseMax s.pulse
  fb : Memory.wf Config.frameMax s.fb
  txf : Memory.wf Config.txFrameBytes s.txf

/-- What the valid guards promise: bits of FB beyond FB_BITS are 0 after a decode (41_pwm_decoder.md R134), a valid TXF holds a
frame with header, trailer and checksum (30_encoding.md R90), a valid RXCMD is the mapped RXCODE (42_frame_check.md R155). -/
structure GuardInv (s : State) : Prop where
  fbTail : s.fbBits ≠ 0 → ∀ k, s.fbBits.toNat ≤ k → k < 8 * Config.frameMax → fbBit s k = false
  txfHeader : s.txfValid = true → txfAt s 0 = 0xAC
  txfSum : s.txfValid = true →
    (txfAt s 7).toNat = ((txfAt s 1).toNat + (txfAt s 2).toNat + (txfAt s 3).toNat + (txfAt s 4).toNat + (txfAt s 5).toNat +
      (txfAt s 6).toNat) % 256
  txfTrailer : s.txfValid = true → txfAt s 8 = 0x80
  rxMapped : s.rxValid = true → s.rxCmd = (cmdMap s.rxCode).code

/-- What the histories hold: no segment without length (00_scope.md R9), no record of a Release (42_frame_check.md R157). -/
structure HistoryInv (s : State) : Prop where
  trace : ∀ x ∈ s.trace, 0 < x.us
  events : ∀ r ∈ s.events, r.cmd ≠ Command.release.code

end Sys2Proof
end

