-- ==== Sys2Proof/Certificates/Slice0/Obligations.lean ====
section
/-! DEFINITION. Certificates/Slice0/Obligations.lean: the statements about the model. A reason, a cause or a command stands in
them as the number 30_encoding.md R85, R86 and R88 give it. -/

namespace Sys2Proof.Claims

open Machine

/-! ## How a statement says what an operation did -/

/-- ST after an operation that completes (10_state.md R21): OK, DUP and REASON as given, CFGERR and the reserved bits as they
were. -/
def Answered (s t : State) (ok dup : Bool) (reason : BitVec 3) : Prop :=
  t.ok = ok ∧ t.dup = dup ∧ t.reason = reason ∧ t.cfgErr = s.cfgErr ∧ statusReserved t.st = statusReserved s.st

/-- The operation ends with the state `u` but for ST, which says `ok`, `dup`, `reason`. -/
def Ends (i : Instr) (s u : State) (ok dup : Bool) (reason : BitVec 3) : Prop :=
  ∃ t, exec i s = .next t ∧ t = { u with st := t.st } ∧ Answered s t ok dup reason

/-- `done` with the state `u` (00_scope.md R8). -/
def Done (i : Instr) (s u : State) : Prop := Ends i s u true false 0

/-- `reject` with the state `u` (00_scope.md R8). -/
def Rejects (i : Instr) (s u : State) (reason : BitVec 3) : Prop := Ends i s u false false reason

/-- The state after `raise ConfigFault(cause)` (60_exceptions.md R246, 10_state.md R30): CFGERR set, the first cause kept, and
nothing else changed. -/
def Marked (s t : State) (cause : BitVec 4) : Prop :=
  t = { s with st := t.st, cfgCause := t.cfgCause } ∧ t.cfgErr = true ∧
    t.cfgCause = (if s.cfgErr = true then s.cfgCause else cause) ∧
    t.ok = s.ok ∧ t.dup = s.dup ∧ t.reason = s.reason ∧ statusReserved t.st = statusReserved s.st

/-- The operation raises ConfigFault(cause). -/
def Faults (i : Instr) (s : State) (cause : BitVec 4) : Prop := ∃ t, exec i s = .next t ∧ Marked s t cause

/-! ## Bands -/

/-- A configured band holds the sample (40_classifier.md R111). -/
def Holds (s : State) (i : Fin 4) (d : Sample) : Prop :=
  (band s i).v = true ∧ (band s i).min.toNat ≤ d.toNat ∧ d.toNat ≤ (band s i).max.toNat

/-- No sample is in two configured bands (40_classifier.md R112, R115). -/
def BandsApart (s : State) : Prop := ∀ i j d, Holds s i d → Holds s j d → i = j

/-! ## The frame in FB -/

/-- The byte sum of FB[1..6] (42_frame_check.md R152, R155). -/
def fbSum (s : State) : Nat :=
  ((fbAt s 1).toNat + (fbAt s 2).toNat + (fbAt s 3).toNat + (fbAt s 4).toNat + (fbAt s 5).toNat + (fbAt s 6).toNat) % 256

/-- The frame RXCHK accepts: enough bits, header and checksum good (R155). -/
def GoodFrame (s : State) : Prop := 64 ≤ s.fbBits.toNat ∧ fbAt s 0 = 0xAC ∧ fbSum s = (fbAt s 7).toNat

/-- The command number of a raw code (42_frame_check.md R154, 30_encoding.md R88). -/
def commandOf (c : BitVec 16) : BitVec 3 :=
  if c = 0x000B then 1
  else if c = Config.cmdCodes.down then 2
  else if c = Config.cmdCodes.stop then 3
  else if c = Config.cmdCodes.release then 4
  else 0

/-- FB with one bit inverted. -/
def flipFb (s : State) (j k : Nat) : State := fbWrite j (fbAt s j ^^^ (1#8 <<< k)) s

/-! ## The duplicate test -/

/-- The conditions of a known repeat (43_dedup.md R181 to R183), on natural numbers. -/
def KnownRepeat (s : State) (fp now : BitVec 32) (window : BitVec 16) : Prop :=
  s.fpValid = true ∧ fp = s.fpLast ∧ (now.toNat + 2 ^ 32 - s.tLast.toNat) % 2 ^ 32 ≤ window.toNat ∧ s.hash = s.hashPrev

/-! ## The transmit side -/

/-- The bytes of a frame (30_encoding.md R90), as numbers. -/
def frameByte (id : BitVec 24) (node : BitVec 8) (code : BitVec 16) : Nat → Nat
  | 0 => 0xAC
  | 1 => id.toNat / 65536
  | 2 => id.toNat / 256 % 256
  | 3 => id.toNat % 256
  | 4 => node.toNat
  | 5 => code.toNat / 256
  | 6 => code.toNat % 256
  | 7 => (id.toNat / 65536 + id.toNat / 256 % 256 + id.toNat % 256 + node.toNat + code.toNat / 256 + code.toNat % 256) % 256
  | _ => 0x80

/-- Bit `k` of the frame, most significant bit of byte 0 first (20_memory.md R62). -/
def frameBit (id : BitVec 24) (node : BitVec 8) (code : BitVec 16) (k : Nat) : Bool :=
  (frameByte id node code (k / 8)).testBit (7 - k % 8)

/-- TXF holds the frame (44_tx_encoder.md R202). -/
def HoldsFrame (s : State) (id : BitVec 24) (node : BitVec 8) (code : BitVec 16) : Prop :=
  s.txfValid = true ∧ ∀ j < 9, (txfAt s j).toNat = frameByte id node code j

/-- A low segment of `t` microseconds, nothing when `t = 0` (00_scope.md R9). -/
def lowFor (t : Nat) : List Segment := if t = 0 then [] else [⟨false, t⟩]

/-- The pulse pair of a bit (44_tx_encoder.md R205). -/
def pairOf (t : Config.TxTiming) : Bool → List Segment
  | true => [⟨true, t.tLong⟩, ⟨false, t.tShort⟩]
  | false => [⟨true, t.tShort⟩, ⟨false, t.tLong⟩]

/-- The segments of one frame with the given bits, as TRACE holds them (44_tx_encoder.md R203). -/
def frameTrace (t : Config.TxTiming) (primed : Bool) (bits : Nat → Bool) : List Segment :=
  (if primed then (List.replicate 8 [⟨true, t.tWakeHigh⟩, ⟨false, t.tWakeLow⟩]).flatten else []) ++
    [⟨true, t.tSyncHigh⟩, ⟨false, t.tSyncLow⟩] ++ (List.range 65).flatMap (fun k => pairOf t (bits k)) ++ lowFor t.tGap

/-- A primed frame and its bare repeats (44_tx_encoder.md R206). -/
def sequenceTrace (t : Config.TxTiming) (repeats : Nat) (bits : Nat → Bool) : List Segment :=
  frameTrace t true bits ++ (List.replicate repeats (frameTrace t false bits)).flatten

/-- What a TXSEND of a sustained command appends to TRACE (R206, R207). -/
def sustainedTrace (id : BitVec 24) (node : BitVec 8) (code : BitVec 16) : List Segment :=
  sequenceTrace Config.txTiming 9 (frameBit id node code) ++ [⟨false, Config.txTiming.tReleaseDelay⟩] ++
    sequenceTrace Config.txTiming 4 (frameBit id node Config.cmdCodes.release)

/-- R5's constraints on the durations. -/
def ValidTiming (t : Config.TxTiming) : Prop :=
  0 < t.tShort ∧ t.tShort < t.tLong ∧ 0 < t.tSyncHigh ∧ 0 < t.tSyncLow ∧ 0 < t.tWakeHigh ∧ 0 < t.tWakeLow ∧
    0 < t.tReleaseDelay

/-! ## Frames: what each operation may write -/

/-- The registers an operation may write. ST and CFGCAUSE are written by all (10_state.md R21, R30); the rest is the operation's
own rule: 40_classifier.md R115, R116, 41_pwm_decoder.md R132, 42_frame_check.md R153, R155, R159, 43_dedup.md R181,
44_tx_encoder.md R202, R204, R206. -/
def mayWrite : Instr → List Reg
  | .band _ _ _ => [.st, .cfgCause]
  | .bandclr _ => [.st, .cfgCause]
  | .classify _ => [.st, .cfgCause, .matchReg]
  | .classifyp _ => [.st, .cfgCause, .matchReg]
  | .decode _ _ _ _ _ _ _ => [.st, .cfgCause, .fbBits]
  | .gate _ _ => [.st, .cfgCause]
  | .chksum _ _ => [.st, .cfgCause, .sum]
  | .rxchk => [.st, .cfgCause, .sum, .rxId, .rxNode, .rxCode, .rxCmd, .rxValid]
  | .emit _ => [.st, .cfgCause]
  | .consume _ => [.st, .cfgCause, .repeats, .number]
  | .dedup _ _ _ => [.st, .cfgCause, .fpLast, .tLast, .fpValid]
  | .txbuild _ _ _ => [.st, .cfgCause, .txfValid]
  | .txframe _ => [.st, .cfgCause, .line]
  | .txsend _ _ _ => [.st, .cfgCause, .txfValid, .line]
  | .reserved0 => [.st, .cfgCause]
  | .reservedF => [.st, .cfgCause]

/-- The band register an operation writes, if any (40_classifier.md R113, R114). -/
def bandWritten : Instr → Option (Fin 4)
  | .band b _ _ => some b
  | .bandclr b => some b
  | _ => none

/-- The operations that write FB (41_pwm_decoder.md R132). -/
def writesFb : Instr → Bool
  | .decode _ _ _ _ _ _ _ => true
  | _ => false

/-- The operations that write TXF (44_tx_encoder.md R202, R206). -/
def writesTxf : Instr → Bool
  | .txbuild _ _ _ => true
  | .txsend _ _ _ => true
  | _ => false

/-- The operations that drive the line (44_tx_encoder.md R204, R206). -/
def drivesLine : Instr → Bool
  | .txframe _ => true
  | .txsend _ _ _ => true
  | _ => false

/-- The operation that appends an event record (42_frame_check.md R158). -/
def emitsRecord : Instr → Bool
  | .emit _ => true
  | _ => false

/-- A DEDUP. -/
def isDedup : Instr → Bool
  | .dedup _ _ _ => true
  | _ => false

/-- The select code an operation's row of the opcode table has (30_encoding.md R82). -/
def selectOf : Instr → Nat
  | .reserved0 => 0x0
  | .band _ _ _ => 0x1
  | .bandclr _ => 0x2
  | .classify _ => 0x3
  | .classifyp _ => 0x4
  | .decode _ _ _ _ _ _ _ => 0x5
  | .gate _ _ => 0x6
  | .chksum _ _ => 0x7
  | .rxchk => 0x8
  | .emit _ => 0x9
  | .consume _ => 0xA
  | .dedup _ _ _ => 0xB
  | .txbuild _ _ _ => 0xC
  | .txframe _ => 0xD
  | .txsend _ _ _ => 0xE
  | .reservedF => 0xF

/-! ## Runs -/

/-- The inputs performed one after another lead from `s` to `t` (20_memory.md R68). -/
def Leads : List Input → State → State → Prop
  | [], s, t => s = t
  | x :: xs, s, t => ∃ u, perform x s = .next u ∧ Leads xs u t

/-- An input that is neither a reset nor a DEDUP. -/
def leavesSlot : Input → Bool
  | .op cw => !isDedup (decode cw)
  | .capture _ => true
  | .reset => false

end Sys2Proof.Claims

open Sys2Proof Sys2Proof.Machine Sys2Proof.Claims

/-! ## Encoding -/

/-- 30_encoding.md R80, R81: no bit of an operand is dropped by the encoding. -/
def Obligations.EncodedOperationDecodesToItself : Prop := ∀ i : Instr, decode (encode i) = i

/-- 30_encoding.md R84. The third clause is the mask that covers CW[127:124] alone. -/
def Obligations.UnusedBitsNeverMatter : Prop :=
  (∀ cw cw' : CommandWord,
    cw'.toNat / 2 ^ unusedBits (decode cw) = cw.toNat / 2 ^ unusedBits (decode cw) → decode cw' = decode cw) ∧
  (∀ i, (encode i).toNat % 2 ^ unusedBits i = 0) ∧
  (∀ cw : CommandWord, selectOf (decode cw) = cw.toNat / 2 ^ 124)

/-- Words of 95_test_vectors.md, written out there from the field table of 30_encoding.md R81. -/
def Obligations.WordsOfTheVectorsDecode : Prop :=
  decode 0x1004B001900000000000000000000000 = .band 0 300 100 ∧
  decode 0x28000000000000000000000000000000 = .bandclr 2 ∧
  decode 0x54100820001000800100014001C00000 = .decode 65 130 1 8 16 20 28 ∧
  decode 0xB1A602A0A000003E801F400000000000 = .dedup 0x1A602A0A 1000 500 ∧
  decode 0xE1A602A0160000000000000000000000 = .txsend 0x1A602A 1 3 ∧
  decode 0xAFFFFFFFFFFFFFFFFFFFFFFFFFFFFFFF = .consume true

/-- 30_encoding.md R83. -/
def Obligations.ReservedSelectCodesRaiseConfigFault : Prop :=
  (∀ (cw : CommandWord) (s : State), cw.toNat / 2 ^ 124 = 0 ∨ cw.toNat / 2 ^ 124 = 15 → Faults (decode cw) s 1) ∧
  (∀ s : State, Faults .reserved0 s 1 ∧ Faults .reservedF s 1) ∧
  (∀ cw : CommandWord, cw.toNat / 2 ^ 124 ≠ 0 → cw.toNat / 2 ^ 124 ≠ 15 →
    decode cw ≠ .reserved0 ∧ decode cw ≠ .reservedF)

/-- The operand part of 30_encoding.md R89's list: an operation that is not well-formed raises ConfigFault or ends
`reject TOKEN`. -/
def Obligations.OperationsOffThePlainListNeverEndDone : Prop :=
  ∀ (i : Instr) (s : State), i.wf = false → (∃ c, c ≠ 0 ∧ Faults i s c) ∨ Rejects i s s 6

/-! ## The step -/

/-- The next input is the host's: step runs the operation its word decodes to, with nothing added (20_memory.md R68;
how inputs wait is the model's choice, log 2). -/
def Obligations.StepRunsTheDecodedOperation : Prop :=
  (∀ (s : State) (cw : CommandWord) (rest : List Input),
    s.pending = .op cw :: rest → step s = exec (decode cw) { s with pending := rest }) ∧
  (∀ (s : State) (w : Nat), w < 2 ^ 128 →
    step (s.withFetchWord 128 w) = exec (decode (BitVec.ofNat 128 w)) s ∧
      decodeTableWord 128 w = some (decode (BitVec.ofNat 128 w)))

/-- 70_reset_and_hazards.md R271: the block does nothing until the host issues an operation (log 3). -/
def Obligations.NothingPresentedNothingHappens : Prop := ∀ s : State, s.pending = [] → step s = .next s

/-- 20_memory.md R66: a CAPTURE step writes the capture layer's state and nothing else, and it is the last write to an element
that counts. The second clause is the model's choice (log 4): an input outside the write set stops the run. -/
def Obligations.CaptureWritesItsOwnStateOnly : Prop :=
  (∀ (s : State) (c : Capture) (rest : List Input), s.pending = .capture c :: rest →
    (∀ p ∈ c.pulses, p.1 < 512) → (∀ n, c.number = some n → n.toNat ≤ 512) →
    ∃ t, step s = .next t ∧
      t = { s with
        pending := rest
        pulse := t.pulse
        number := c.number.getD s.number
        multiply := c.multiply.getD s.multiply
        repeats := c.repeats.getD s.repeats
        hash := c.hash.getD s.hash
        hashPrev := c.hashPrev.getD s.hashPrev } ∧
      (∀ i, i ∉ c.pulses.map Prod.fst → pulseAt t i = pulseAt s i) ∧
      (∀ (ps qs : List (Nat × Sample)) (i : Nat) (v : Sample), c.pulses = ps ++ (i, v) :: qs →
        i ∉ qs.map Prod.fst → pulseAt t i = v)) ∧
  (∀ (s : State) (c : Capture) (rest : List Input), s.pending = .capture c :: rest →
    ((∃ p ∈ c.pulses, 512 ≤ p.1) ∨ ∃ n, c.number = some n ∧ 512 < n.toNat) → step s = .fault .captureOutOfRange)

/-- 10_state.md R37, the values the table gives; of what the table calls unspecified nothing is said. That the inputs still to
come stay is the model's choice (log 5). -/
def Obligations.ResetLeavesTheResetTable : Prop :=
  (∀ (s : State) (rest : List Input), s.pending = .reset :: rest → ∃ t, step s = .next t ∧ t.pending = rest ∧
    t.st = 0x00 ∧ t.cfgCause = 0 ∧ t.multiply = 0 ∧ t.number = 0 ∧ t.repeats = false ∧ (∀ i, (band t i).v = false) ∧
    t.matchReg = 4 ∧ t.fbBits = 0 ∧ t.rxValid = false ∧ t.fpValid = false ∧ t.txfValid = false ∧ t.line = false ∧
    t.trace = [] ∧ t.events = []) ∧
  (State.reset.st = 0x00 ∧ State.reset.cfgCause = 0 ∧ State.reset.multiply = 0 ∧ State.reset.number = 0 ∧
    State.reset.repeats = false ∧ (∀ i, (band State.reset i).v = false) ∧ State.reset.matchReg = 4 ∧
    State.reset.fbBits = 0 ∧ State.reset.rxValid = false ∧ State.reset.fpValid = false ∧ State.reset.txfValid = false ∧
    State.reset.line = false ∧ State.reset.trace = [] ∧ State.reset.events = [])

/-! ## Outcomes -/

/-- 00_scope.md R8: `done`, `reject` with one of the six reasons, or `raise ConfigFault` with one of the six causes. -/
def Obligations.EveryOperationEndsInOneOfThreeOutcomes : Prop :=
  ∀ (i : Instr) (s : State),
    (∃ u dup, u.cfgCause = s.cfgCause ∧ Ends i s u true dup 0) ∨
    (∃ u reason, u.cfgCause = s.cfgCause ∧ 1 ≤ reason.toNat ∧ reason.toNat ≤ 6 ∧ Rejects i s u reason) ∨
    (∃ cause, 1 ≤ cause.toNat ∧ cause.toNat ≤ 6 ∧ Faults i s cause)

/-- 60_exceptions.md R246, 10_state.md R30: CFGERR is sticky and CFGCAUSE keeps the first cause, until reset. -/
def Obligations.ConfigFaultMarkLastsUntilReset : Prop :=
  ∀ s t : State, s.cfgErr = true → (∀ rest, s.pending ≠ .reset :: rest) → step s = .next t →
    t.cfgErr = true ∧ t.cfgCause = s.cfgCause

/-- 60_exceptions.md R246: a run with a ConfigFault in it shows the mark at its end, so a run that ends unmarked, with no reset
in it, was safe throughout. -/
def Obligations.UnmarkedRunWasSafeThroughout : Prop :=
  ∀ (n : Nat) (s t : State), Input.reset ∉ s.pending → Sys2Proof.core.run n s = .next t → t.cfgErr = false → SafeRun n s

/-- 60_exceptions.md R242: a duplicate is reported by ST.DUP = 1 with ST.OK = 1, and by DEDUP alone. -/
def Obligations.OnlyDedupReportsADuplicate : Prop :=
  (∀ (fp now : BitVec 32) (window : BitVec 16) (s : State), KnownRepeat s fp now window →
    ∃ t, exec (.dedup fp now window) s = .next t ∧ t.dup = true ∧ t.ok = true) ∧
  (∀ (i : Instr) (s t : State), exec i s = .next t → t.cfgErr = false → t.dup = true →
    t.ok = true ∧ ∃ fp now window, i = .dedup fp now window ∧ KnownRepeat s fp now window)

/-- 60_exceptions.md R241, the table: an operation that ends `reject` gives the reason of the row whose condition holds. -/
def Obligations.EveryRejectionHasItsCause : Prop :=
  ∀ (i : Instr) (s t : State), exec i s = .next t → t.cfgErr = false → t.ok = false →
    (t.reason = 1 ∧ ∃ lo hi, i = .gate lo hi ∧ (s.number.toNat < lo.toNat ∨ hi.toNat < s.number.toNat)) ∨
    (t.reason = 2 ∧ ∃ d, (i = .classify d ∨ ∃ j : BitVec 16, i = .classifyp j ∧ d = pulseAt s j.toNat) ∧
      ∀ b, ¬ Holds s b d) ∨
    (t.reason = 2 ∧ ∃ nbits count start smin smax lmin lmax, i = .decode nbits count start smin smax lmin lmax ∧
      ∃ k < nbits.toNat, start.toNat + 2 * k < count.toNat ∧
        inBand (pulseAt s (start.toNat + 2 * k)) smin smax = false ∧
        inBand (pulseAt s (start.toNat + 2 * k)) lmin lmax = false) ∨
    (t.reason = 3 ∧ ∃ nbits count start smin smax lmin lmax, i = .decode nbits count start smin smax lmin lmax ∧
      ∃ k < nbits.toNat, count.toNat ≤ start.toNat + 2 * k) ∨
    (t.reason = 4 ∧ i = .rxchk ∧ fbAt s 0 ≠ 0xAC) ∨
    (t.reason = 5 ∧ i = .rxchk ∧ fbSum s ≠ (fbAt s 7).toNat) ∨
    (t.reason = 6 ∧ ∃ id node token, i = .txsend id node token ∧ token ≠ 1 ∧ token ≠ 2 ∧ token ≠ 3)

/-! ## Classifier -/

/-- 40_classifier.md R111 and R112: both limits belong to a band; two bands overlap exactly when some sample is in both; bands
that overlap make a comparison against them raise ConfigFault(BAND_OVERLAP). -/
def Obligations.BandsHoldTheirLimitsAndOverlapBySharing : Prop :=
  (∀ d lo hi : Sample, inBand d lo hi = true ↔ lo.toNat ≤ d.toNat ∧ d.toNat ≤ hi.toNat) ∧
  (∀ d lo hi : Sample, hi.toNat < lo.toNat → inBand d lo hi = false) ∧
  (∀ lo1 hi1 lo2 hi2 : Sample,
    (overlap lo1 hi1 lo2 hi2 = true ↔ max lo1.toNat lo2.toNat ≤ min hi1.toNat hi2.toNat) ∧
    (overlap lo1 hi1 lo2 hi2 = true ↔ ∃ d, inBand d lo1 hi1 = true ∧ inBand d lo2 hi2 = true) ∧
    (hi1.toNat < lo1.toNat → overlap lo1 hi1 lo2 hi2 = false ∧ overlap lo2 hi2 lo1 hi1 = false)) ∧
  (∀ (s : State) (d : Sample), ¬ BandsApart s → Faults (.classify d) s 5) ∧
  (∀ (s : State) (i : BitVec 16), ¬ BandsApart s → i.toNat < s.number.toNat → Faults (.classifyp i) s 5) ∧
  (∀ (s : State) (nbits : BitVec 8) (count start smin smax lmin lmax : BitVec 16), nbits.toNat ≤ 128 →
    count.toNat ≤ s.number.toNat → overlap smin smax lmin lmax = true →
    Faults (.decode nbits count start smin smax lmin lmax) s 5)

/-- 40_classifier.md R113: the limits, the write, and the three faults in their order. -/
def Obligations.BandComputesItsLimits : Prop :=
  ∀ (b : Fin 4) (nominal tol : BitVec 16) (s : State),
    (s.multiply ≠ 0 → tol.toNat ≤ nominal.toNat → nominal.toNat + tol.toNat ≤ 65535 →
      ∃ t, exec (.band b nominal tol) s = .next t ∧ t = { s with st := t.st, bands := t.bands } ∧
        Answered s t true false 0 ∧
        (band t b).v = true ∧
        (band t b).min.toNat = (nominal.toNat - tol.toNat) / s.multiply.toNat ∧
        (band t b).max.toNat = (nominal.toNat + tol.toNat) / s.multiply.toNat ∧
        ∀ j, j ≠ b → band t j = band s j) ∧
    (s.multiply = 0 → Faults (.band b nominal tol) s 3) ∧
    (s.multiply ≠ 0 → nominal.toNat < tol.toNat ∨ 65535 < nominal.toNat + tol.toNat → Faults (.band b nominal tol) s 4)

/-- 40_classifier.md R114. -/
def Obligations.BandclrClearsTheValidFlagAlone : Prop :=
  ∀ (b : Fin 4) (s : State),
    ∃ t, exec (.bandclr b) s = .next t ∧ t = { s with st := t.st, bands := t.bands } ∧ Answered s t true false 0 ∧
      band t b = { band s b with v := false } ∧ (∀ j, j ≠ b → band t j = band s j) ∧
      ((band s b).v = false → t.bands = s.bands) ∧
      ∀ d, ¬ Holds t b d

/-- 40_classifier.md R115. -/
def Obligations.ClassifyAnswersTheUniqueBand : Prop :=
  ∀ (d : Sample) (s : State),
    (BandsApart s → ∀ i, Holds s i d → Done (.classify d) s { s with matchReg := BitVec.ofNat 3 i.val }) ∧
    (BandsApart s → (∀ i, ¬ Holds s i d) → Rejects (.classify d) s { s with matchReg := 4 } 2) ∧
    (¬ BandsApart s → Faults (.classify d) s 5)

/-- 40_classifier.md R116: the index check first, then exactly as CLASSIFY of the pulse stored at the index. -/
def Obligations.ClassifypClassifiesTheStoredPulse : Prop :=
  ∀ (i : BitVec 16) (s : State),
    (s.number.toNat ≤ i.toNat → Faults (.classifyp i) s 6) ∧
    (i.toNat < s.number.toNat → exec (.classifyp i) s = exec (.classify (pulseAt s i.toNat)) s) ∧
    (i.toNat < s.number.toNat → BandsApart s → ∀ k, Holds s k (pulseAt s i.toNat) →
      Done (.classifyp i) s { s with matchReg := BitVec.ofNat 3 k.val }) ∧
    (i.toNat < s.number.toNat → BandsApart s → (∀ k, ¬ Holds s k (pulseAt s i.toNat)) →
      Rejects (.classifyp i) s { s with matchReg := 4 } 2) ∧
    (i.toNat < s.number.toNat → ¬ BandsApart s → Faults (.classifyp i) s 5)

/-- 40_classifier.md R118: a true duration inside the window in microseconds is inside the scaled band at every unit scale, and
the converse does not hold. -/
def Obligations.TrueDurationIsInTheScaledBand : Prop :=
  (∀ (b : Fin 4) (nominal tol : BitVec 16) (s : State) (us : Nat),
    s.multiply ≠ 0 → tol.toNat ≤ nominal.toNat → nominal.toNat + tol.toNat ≤ 65535 →
    nominal.toNat - tol.toNat ≤ us → us ≤ nominal.toNat + tol.toNat →
    ∃ t, exec (.band b nominal tol) s = .next t ∧ Holds t b (BitVec.ofNat 16 (us / s.multiply.toNat))) ∧
  ¬ (∀ (b : Fin 4) (nominal tol : BitVec 16) (s t : State) (us : Nat),
    s.multiply ≠ 0 → tol.toNat ≤ nominal.toNat → nominal.toNat + tol.toNat ≤ 65535 → us ≤ 65535 →
    exec (.band b nominal tol) s = .next t → Holds t b (BitVec.ofNat 16 (us / s.multiply.toNat)) →
    nominal.toNat - tol.toNat ≤ us ∧ us ≤ nominal.toNat + tol.toNat)

/-! ## DECODE -/

/-- 41_pwm_decoder.md R131. -/
def Obligations.DecodeChecksItsOperandsInOrder : Prop :=
  ∀ (nbits : BitVec 8) (count start smin smax lmin lmax : BitVec 16) (s : State),
    (128 < nbits.toNat → Faults (.decode nbits count start smin smax lmin lmax) s 2) ∧
    (nbits.toNat ≤ 128 → s.number.toNat < count.toNat → Faults (.decode nbits count start smin smax lmin lmax) s 6) ∧
    (nbits.toNat ≤ 128 → count.toNat ≤ s.number.toNat →
      max smin.toNat lmin.toNat ≤ min smax.toNat lmax.toNat →
      Faults (.decode nbits count start smin smax lmin lmax) s 5) ∧
    (nbits.toNat ≤ 128 → count.toNat ≤ s.number.toNat →
      min smax.toNat lmax.toNat < max smin.toNat lmin.toNat → 0 < nbits.toNat → count.toNat ≤ start.toNat →
      ∃ t, exec (.decode nbits count start smin smax lmin lmax) s = .next t ∧ Answered s t false false 3)

/-- 41_pwm_decoder.md R132 (a `done` DECODE), R134 and the first half of R136: samples in the short band are 0 bits and samples in the long band 1
bits; the bits stand in FB most significant first and every other bit of FB is 0; nothing but ST, FB and FB_BITS changes. The
second clause says it of every DECODE that ended `done`: each of its bits has the band its sample is in. -/
def Obligations.DecodeRecoversTheBits : Prop :=
  (∀ (nbits : BitVec 8) (count start smin smax lmin lmax : BitVec 16) (s : State) (bits : Nat → Bool),
    nbits.toNat ≤ 128 → count.toNat ≤ s.number.toNat →
    min smax.toNat lmax.toNat < max smin.toNat lmin.toNat →
    (∀ k < nbits.toNat, start.toNat + 2 * k < count.toNat ∧
      (bits k = false → smin.toNat ≤ (pulseAt s (start.toNat + 2 * k)).toNat ∧
        (pulseAt s (start.toNat + 2 * k)).toNat ≤ smax.toNat) ∧
      (bits k = true → lmin.toNat ≤ (pulseAt s (start.toNat + 2 * k)).toNat ∧
        (pulseAt s (start.toNat + 2 * k)).toNat ≤ lmax.toNat)) →
    ∃ t, exec (.decode nbits count start smin smax lmin lmax) s = .next t ∧
      t = { s with st := t.st, fb := t.fb, fbBits := nbits } ∧ Answered s t true false 0 ∧
      (∀ k < nbits.toNat, (fbAt t (k / 8)).getLsbD (7 - k % 8) = bits k) ∧
      (∀ k, nbits.toNat ≤ k → k < 128 → (fbAt t (k / 8)).getLsbD (7 - k % 8) = false)) ∧
  (∀ (nbits : BitVec 8) (count start smin smax lmin lmax : BitVec 16) (s t : State),
    nbits.toNat ≤ 128 → count.toNat ≤ s.number.toNat →
    min smax.toNat lmax.toNat < max smin.toNat lmin.toNat →
    exec (.decode nbits count start smin smax lmin lmax) s = .next t → t.ok = true →
    t.fbBits = nbits ∧
    (∀ k < nbits.toNat, start.toNat + 2 * k < count.toNat ∧
      (((fbAt t (k / 8)).getLsbD (7 - k % 8) = false ∧ inBand (pulseAt s (start.toNat + 2 * k)) smin smax = true) ∨
        ((fbAt t (k / 8)).getLsbD (7 - k % 8) = true ∧ inBand (pulseAt s (start.toNat + 2 * k)) lmin lmax = true))) ∧
    (∀ k, nbits.toNat ≤ k → k < 128 → (fbAt t (k / 8)).getLsbD (7 - k % 8) = false))

/-- 60_exceptions.md R247 and 41_pwm_decoder.md R132: the first bit that fails decides, EXHAUSTED before TIMING; FB_BITS is 0
after it and of FB's bytes nothing is said. -/
def Obligations.DecodeReportsItsFirstFailingBit : Prop :=
  ∀ (nbits : BitVec 8) (count start smin smax lmin lmax : BitVec 16) (s : State) (k : Nat),
    nbits.toNat ≤ 128 → count.toNat ≤ s.number.toNat →
    min smax.toNat lmax.toNat < max smin.toNat lmin.toNat → k < nbits.toNat →
    (∀ j < k, start.toNat + 2 * j < count.toNat ∧
      (inBand (pulseAt s (start.toNat + 2 * j)) smin smax = true ∨
        inBand (pulseAt s (start.toNat + 2 * j)) lmin lmax = true)) →
    (count.toNat ≤ start.toNat + 2 * k →
      ∃ t, exec (.decode nbits count start smin smax lmin lmax) s = .next t ∧
        t = { s with st := t.st, fb := t.fb, fbBits := 0, draws := t.draws } ∧ Answered s t false false 3) ∧
    (start.toNat + 2 * k < count.toNat → inBand (pulseAt s (start.toNat + 2 * k)) smin smax = false →
      inBand (pulseAt s (start.toNat + 2 * k)) lmin lmax = false →
      ∃ t, exec (.decode nbits count start smin smax lmin lmax) s = .next t ∧
        t = { s with st := t.st, fb := t.fb, fbBits := 0, draws := t.draws } ∧ Answered s t false false 2)

/-- 41_pwm_decoder.md R133: bit `k` is decided by PULSE[start + 2k] alone. Changing any other sample of the buffer changes
nothing in the outcome. On a reject the comparison takes in FB, which R132 and 93_implementation_defined.md U1 leave at any value:
that FB's bytes agree there is the model's choice (log 8), no rule of the spec. -/
def Obligations.DecodeLooksAtEverySecondSampleOnly : Prop :=
  ∀ (nbits : BitVec 8) (count start smin smax lmin lmax : BitVec 16) (s t : State) (pulse : Memory 16),
    (∀ k < nbits.toNat, pulseAt { s with pulse := pulse } (start.toNat + 2 * k) = pulseAt s (start.toNat + 2 * k)) →
    exec (.decode nbits count start smin smax lmin lmax) s = .next t →
    exec (.decode nbits count start smin smax lmin lmax) { s with pulse := pulse } = .next { t with pulse := pulse }

/-! ## Frame check -/

/-- 42_frame_check.md R151. -/
def Obligations.GateTestsThePulseCount : Prop :=
  ∀ (lo hi : BitVec 16) (s : State),
    (lo.toNat ≤ s.number.toNat → s.number.toNat ≤ hi.toNat → Done (.gate lo hi) s s) ∧
    (s.number.toNat < lo.toNat ∨ hi.toNat < s.number.toNat → Rejects (.gate lo hi) s s 1)

/-- 42_frame_check.md R153. -/
def Obligations.ChksumSumsTheRange : Prop :=
  ∀ (lo hi : BitVec 8) (s : State),
    (hi.toNat < lo.toNat → Faults (.chksum lo hi) s 2) ∧
    (lo.toNat ≤ hi.toNat → s.fbBits.toNat ≤ 8 * hi.toNat → Faults (.chksum lo hi) s 6) ∧
    (lo.toNat ≤ hi.toNat → 8 * hi.toNat < s.fbBits.toNat →
      ∃ x : Byte, x.toNat = (∑ j ∈ Finset.Icc lo.toNat hi.toNat, (fbAt s j).toNat) % 256 ∧
        Done (.chksum lo hi) s { s with sum := x })

/-- 42_frame_check.md R155. BUFFER_STATE first, then HEADER, then CHECKSUM; a good frame gives its fields and the mapped
command. SUM is written on both rejects, RXVALID is 0 after them, and of the other RX registers nothing is said. -/
def Obligations.RxchkChecksAndExtracts : Prop :=
  ∀ s : State,
    (s.fbBits.toNat < 64 → Faults .rxchk s 6) ∧
    (64 ≤ s.fbBits.toNat → ∀ reason : BitVec 3,
      ((fbAt s 0 ≠ 0xAC ∧ reason = 4) ∨ (fbAt s 0 = 0xAC ∧ fbSum s ≠ (fbAt s 7).toNat ∧ reason = 5)) →
      ∃ t, exec .rxchk s = .next t ∧
        t = { s with
          st := t.st
          sum := BitVec.ofNat 8 (fbSum s)
          rxId := t.rxId
          rxNode := t.rxNode
          rxCode := t.rxCode
          rxCmd := t.rxCmd
          rxValid := false
          draws := t.draws } ∧
        Answered s t false false reason) ∧
    (GoodFrame s →
      ∃ t, exec .rxchk s = .next t ∧
        t = { s with
          st := t.st
          sum := fbAt s 7
          rxId := t.rxId
          rxNode := fbAt s 4
          rxCode := t.rxCode
          rxCmd := commandOf t.rxCode
          rxValid := true } ∧
        Answered s t true false 0 ∧
        t.rxId.toNat = (fbAt s 1).toNat * 65536 + (fbAt s 2).toNat * 256 + (fbAt s 3).toNat ∧
        t.rxCode.toNat = (fbAt s 5).toNat * 256 + (fbAt s 6).toNat)

/-- 42_frame_check.md R154: the four codes are told apart and every other code is Unknown, which is accepted. -/
def Obligations.RawCodesMapToTheirCommands : Prop :=
  cmdMap 0x000B = .up ∧ cmdMap Config.cmdCodes.down = .down ∧ cmdMap Config.cmdCodes.stop = .stop ∧
  cmdMap Config.cmdCodes.release = .release ∧
  (∀ c, c ≠ 0x000B → c ≠ Config.cmdCodes.down → c ≠ Config.cmdCodes.stop → c ≠ Config.cmdCodes.release →
    cmdMap c = .unknown) ∧
  (∀ s : State, GoodFrame s → cmdMap (fbAt s 5 ++ fbAt s 6) = .unknown →
    ∃ t, exec .rxchk s = .next t ∧ t.ok = true ∧ t.rxValid = true ∧ t.rxCmd = 0)

/-- 42_frame_check.md R162. -/
def Obligations.SingleBitErrorsAreCaught : Prop :=
  (∀ (s : State) (j k : Nat), GoodFrame s → j ≤ 8 → k < 8 →
    (1 ≤ j → j ≤ 7 → ∃ t, exec .rxchk (flipFb s j k) = .next t ∧ Answered s t false false 5) ∧
    (j = 0 → ∃ t, exec .rxchk (flipFb s j k) = .next t ∧ Answered s t false false 4) ∧
    (j = 8 → ∃ t, exec .rxchk s = .next t ∧
      exec .rxchk (flipFb s j k) = .next { t with fb := (flipFb s j k).fb })) ∧
  (∃ (s : State) (j k j' k' : Nat), GoodFrame s ∧ (j, k) ≠ (j', k') ∧ 1 ≤ j ∧ j ≤ 6 ∧ 1 ≤ j' ∧ j' ≤ 6 ∧ k < 8 ∧ k' < 8 ∧
    GoodFrame (flipFb (flipFb s j k) j' k'))

/-- 42_frame_check.md R158. -/
def Obligations.EmitHandsTheRecordToTheSink : Prop :=
  ∀ (proto : BitVec 8) (s : State),
    (s.rxValid = false → Faults (.emit proto) s 6) ∧
    (s.rxValid = true → s.rxCmd ≠ 4 →
      Done (.emit proto) s { s with events := s.events ++ [⟨proto, s.rxId, s.rxNode, s.rxCmd⟩] }) ∧
    (s.rxValid = true → s.rxCmd = 4 → Done (.emit proto) s s)

/-- 42_frame_check.md R157: a good frame with the Release code is accepted by RXCHK, appends no record, and the reference
sequence ends with no event and an untouched slot. -/
def Obligations.ReleaseIsAcceptedWithoutAnEvent : Prop :=
  (∀ s : State, GoodFrame s → fbAt s 5 ++ fbAt s 6 = Config.cmdCodes.release →
    ∃ t, exec .rxchk s = .next t ∧ t.ok = true ∧ t.rxValid = true ∧ t.rxCmd = 4 ∧
      ∀ proto, ∃ u, exec (.emit proto) t = .next u ∧ u.ok = true ∧ u.events = s.events) ∧
  (∀ (a : RxSeqArgs) (s t : State) (result : RxResult), rxSeq a s = .next (result, t) → result ≠ .rejected →
    (result = .acceptedNoEvent ↔ t.rxCmd = 4) ∧
    (t.rxCmd = 4 → t.events = s.events ∧ t.fpLast = s.fpLast ∧ t.tLast = s.tLast ∧ t.fpValid = s.fpValid))

/-- 42_frame_check.md R159. The DECODE clause names the operand check that comes before the buffer check (41_pwm_decoder.md
R131). -/
def Obligations.ConsumeMarksTheBuffer : Prop :=
  ∀ (z : Bool) (s : State),
    Done (.consume z) s { s with repeats := true, number := if z then 0 else s.number } ∧
    ∀ t, exec (.consume true) s = .next t →
      (∀ (nbits : BitVec 8) (count start smin smax lmin lmax : BitVec 16), nbits.toNat ≤ 128 → 0 < count.toNat →
        Faults (.decode nbits count start smin smax lmin lmax) t 6) ∧
      (∀ i, Faults (.classifyp i) t 6) ∧
      (∀ lo hi : BitVec 16, 1 ≤ lo.toNat → Rejects (.gate lo hi) t t 1)

/-! ## Duplicate suppression -/

/-- 43_dedup.md R181: a known repeat changes nothing but ST; anything else is remembered with its time. -/
def Obligations.DedupRemembersOrSuppresses : Prop :=
  ∀ (fp now : BitVec 32) (window : BitVec 16) (s : State),
    (KnownRepeat s fp now window → Ends (.dedup fp now window) s s true true 0) ∧
    (¬ KnownRepeat s fp now window →
      Done (.dedup fp now window) s { s with fpLast := fp, tLast := now, fpValid := true })

/-- 43_dedup.md R184: nothing but the second branch of DEDUP writes the slot, and it writes fingerprint and time together. -/
def Obligations.TimestampMovesWithTheFingerprint : Prop :=
  ∀ (i : Instr) (s t : State), exec i s = .next t →
    (t.tLast = s.tLast ∧ t.fpLast = s.fpLast ∧ t.fpValid = s.fpValid) ∨
    (∃ fp now window, i = .dedup fp now window ∧ ¬ KnownRepeat s fp now window ∧ t.dup = false ∧
      t.fpLast = fp ∧ t.tLast = now ∧ t.fpValid = true)

/-- 43_dedup.md R187: after a packet is accepted as new, whatever comes before the next DEDUP, the same packet is a duplicate
exactly while at most `window` milliseconds have gone by. -/
def Obligations.RepeatIsSuppressedExactlyInsideTheWindow : Prop :=
  ∀ (fp t1 t2 : BitVec 32) (w : BitVec 16) (s a b : State) (xs : List Input),
    exec (.dedup fp t1 w) s = .next a → a.dup = false → (∀ x ∈ xs, leavesSlot x = true) → Leads xs a b →
    b.hash = b.hashPrev →
    ∃ c, exec (.dedup fp t2 w) b = .next c ∧ c.ok = true ∧
      (c.dup = true ↔ (t2.toNat + 2 ^ 32 - t1.toNat) % 2 ^ 32 ≤ w.toNat)

/-! ## Transmit -/

/-- 44_tx_encoder.md R202, byte for byte. -/
def Obligations.TxbuildBuildsTheFrame : Prop :=
  ∀ (id : BitVec 24) (node : BitVec 8) (code : BitVec 16) (s : State),
    ∃ t, exec (.txbuild id node code) s = .next t ∧ t = { s with st := t.st, txf := t.txf, txfValid := true } ∧
      Answered s t true false 0 ∧ HoldsFrame t id node code

/-- 44_tx_encoder.md R203 to R205: the segments one frame appends to TRACE. -/
def Obligations.TxframeDrivesOneFrame : Prop :=
  ∀ (primed : Bool) (s : State),
    (s.txfValid = false → Faults (.txframe primed) s 6) ∧
    (s.txfValid = true →
      Done (.txframe primed) s { s with
        trace := s.trace ++ frameTrace Config.txTiming primed (fun k => (txfAt s (k / 8)).getLsbD (7 - k % 8))
        line := false })

/-- 44_tx_encoder.md R201, R206, R207: the schedule of each token that can be sent, the frame TXF holds after it, and the
rejection of every other token with no other effect. -/
def Obligations.TxsendDrivesTheWholeSchedule : Prop :=
  ∀ (id : BitVec 24) (node : BitVec 8) (s : State),
    (∃ t, exec (.txsend id node 1) s = .next t ∧
      t = { s with
        st := t.st
        txf := t.txf
        txfValid := true
        line := false
        trace := s.trace ++ sustainedTrace id node 0x000B } ∧
      Answered s t true false 0 ∧ HoldsFrame t id node Config.cmdCodes.release) ∧
    (∃ t, exec (.txsend id node 2) s = .next t ∧
      t = { s with
        st := t.st
        txf := t.txf
        txfValid := true
        line := false
        trace := s.trace ++ sustainedTrace id node Config.cmdCodes.down } ∧
      Answered s t true false 0 ∧ HoldsFrame t id node Config.cmdCodes.release) ∧
    (∃ t, exec (.txsend id node 3) s = .next t ∧
      t = { s with
        st := t.st
        txf := t.txf
        txfValid := true
        line := false
        trace := s.trace ++ sequenceTrace Config.txTiming 9 (frameBit id node Config.cmdCodes.stop) } ∧
      Answered s t true false 0 ∧ HoldsFrame t id node Config.cmdCodes.stop) ∧
    (∀ token : BitVec 3, token ≠ 1 → token ≠ 2 → token ≠ 3 → Rejects (.txsend id node token) s s 6)

/-- 44_tx_encoder.md R210: how many segments a TXSEND appends, and how long a frame lasts. -/
def Obligations.TransmissionsHaveTheirCountsAndDurations : Prop :=
  (∀ (id : BitVec 24) (node : BitVec 8) (token : BitVec 3) (s t : State), exec (.txsend id node token) s = .next t →
    (token = 3 → t.trace.length = s.trace.length + 1336 + (if Config.txTiming.tGap = 0 then 0 else 10)) ∧
    (token = 1 ∨ token = 2 →
      t.trace.length = s.trace.length + 2013 + (if Config.txTiming.tGap = 0 then 0 else 15))) ∧
  (∀ (primed : Bool) (s t : State), s.txfValid = true → exec (.txframe primed) s = .next t →
    t.trace.length = s.trace.length + (if primed then 148 else 132) + (if Config.txTiming.tGap = 0 then 0 else 1) ∧
    duration t.trace = duration s.trace + Config.txTiming.tSyncHigh + Config.txTiming.tSyncLow +
      65 * (Config.txTiming.tShort + Config.txTiming.tLong) + Config.txTiming.tGap +
      (if primed then 8 * (Config.txTiming.tWakeHigh + Config.txTiming.tWakeLow) else 0))

/-- 44_tx_encoder.md R208: the segments TXSEND appends are a function of its operands (and the parameters) alone, and none of
the receive side is written. -/
def Obligations.TransmissionDependsOnItsOperandsAlone : Prop :=
  ∃ segments : BitVec 24 → BitVec 8 → BitVec 3 → List Segment,
    ∀ (id : BitVec 24) (node : BitVec 8) (token : BitVec 3) (s : State),
      ∃ t, exec (.txsend id node token) s = .next t ∧ t.trace = s.trace ++ segments id node token ∧
        t = { s with st := t.st, txf := t.txf, txfValid := t.txfValid, line := t.line, trace := t.trace }

/-- 44_tx_encoder.md R211: merging neighbours of equal level keeps the duration and leaves no two neighbours alike. -/
def Obligations.MergedLineKeepsItsDuration : Prop :=
  ∀ xs : List Segment, duration (mergeLevels xs) = duration xs ∧
    (mergeLevels xs).IsChain (fun x y => x.high ≠ y.high)

/-- 41_pwm_decoder.md R136, second half: whatever the open durations, a frame built and driven, captured ideally at any unit
scale and decoded with bands around the two data durations, comes back byte for byte. -/
def Obligations.DecoderRecoversTheTransmittedFrame : Prop :=
  ∀ (tm : Config.TxTiming) (id : BitVec 24) (node : BitVec 8) (code : BitVec 16) (s r : State) (m ts tl : Nat)
    (count start : BitVec 16),
    ValidTiming tm → 1 ≤ m → (tm.tShort + ts) / m < (tm.tLong - tl) / m → (tm.tLong + tl) / m ≤ 65535 →
    count.toNat ≤ r.number.toNat → start.toNat + 128 < count.toNat → s.trace = [] →
    (∀ k < 65, (pulseAt r (start.toNat + 2 * k)).toNat =
      (((emitFrame tm false (buildFrame id node code s)).trace.getD (2 + 2 * k) ⟨false, 0⟩).us) / m) →
    ∃ t, exec (.decode 65 count start (BitVec.ofNat 16 ((tm.tShort - ts) / m)) (BitVec.ofNat 16 ((tm.tShort + ts) / m))
        (BitVec.ofNat 16 ((tm.tLong - tl) / m)) (BitVec.ofNat 16 ((tm.tLong + tl) / m))) r = .next t ∧
      t.ok = true ∧ t.fbBits = 65 ∧ (∀ j < 9, fbAt t j = txfAt (buildFrame id node code s) j) ∧
      (∀ j < 9, (fbAt t j).toNat = frameByte id node code j)

/-! ## The reference receive sequence -/

/-- 42_frame_check.md R160, R161: a Rejected result leaves NUMBER, REPEATS, the duplicate registers and EVENTS untouched. -/
def Obligations.RejectedSequenceLeavesNoTrace : Prop :=
  ∀ (a : RxSeqArgs) (s t : State), rxSeq a s = .next (.rejected, t) →
    t.ok = false ∧ t.number = s.number ∧ t.repeats = s.repeats ∧ t.fpLast = s.fpLast ∧ t.tLast = s.tLast ∧
    t.fpValid = s.fpValid ∧ t.events = s.events ∧ t.pulse = s.pulse

/-- 42_frame_check.md R160: what each accepting result did, in a run with no ConfigFault. -/
def Obligations.AcceptingSequenceDoesWhatItsResultSays : Prop :=
  ∀ (a : RxSeqArgs) (s t : State) (result : RxResult), rxSeq a s = .next (result, t) → t.cfgErr = false →
    result ≠ .rejected →
    t.repeats = true ∧ t.number = (if a.z then 0 else s.number) ∧ t.rxValid = true ∧
    (result = .accepted →
      t.events = s.events ++ [⟨a.proto, t.rxId, t.rxNode, t.rxCmd⟩] ∧ t.rxCmd ≠ 4 ∧
      t.fpLast = Config.fpFn t.rxId t.rxNode t.rxCode ∧ t.tLast = a.now ∧ t.fpValid = true) ∧
    (result = .acceptedDuplicate →
      t.events = s.events ∧ KnownRepeat s (Config.fpFn t.rxId t.rxNode t.rxCode) a.now a.window ∧
      t.fpLast = s.fpLast ∧ t.tLast = s.tLast ∧ t.fpValid = s.fpValid) ∧
    (result = .acceptedNoEvent →
      t.events = s.events ∧ t.rxCmd = 4 ∧ t.fpLast = s.fpLast ∧ t.tLast = s.tLast ∧ t.fpValid = s.fpValid)

/-- The end-to-end example of 95_test_vectors.md S6 for every frame: a 130-pulse capture of a frame that is no Release and no
known repeat gives one event with its identifier, node and command. -/
def Obligations.CapturedFrameGivesOneEvent : Prop :=
  ∀ (a : RxSeqArgs) (s : State) (id : BitVec 24) (node : BitVec 8) (code : BitVec 16),
    s.number = 130 → min a.smax.toNat a.lmax.toNat < max a.smin.toNat a.lmin.toNat →
    (∀ k < 65,
      (frameBit id node code k = false → inBand (pulseAt s (1 + 2 * k)) a.smin a.smax = true) ∧
      (frameBit id node code k = true → inBand (pulseAt s (1 + 2 * k)) a.lmin a.lmax = true)) →
    commandOf code ≠ 4 → ¬ KnownRepeat s (Config.fpFn id node code) a.now a.window →
    ∃ t, rxSeq a s = .next (.accepted, t) ∧ t.cfgErr = s.cfgErr ∧
      t.events = s.events ++ [⟨a.proto, id, node, commandOf code⟩] ∧
      t.rxId = id ∧ t.rxNode = node ∧ t.rxCode = code ∧ t.repeats = true

/-! ## Frames -/

/-- Every register an operation's rule does not name is unchanged, and so is every band register but the one BAND and BANDCLR
name. -/
def Obligations.OperationsWriteTheirOwnRegistersOnly : Prop :=
  ∀ (i : Instr) (s t : State), exec i s = .next t →
    (∀ r, r ∉ mayWrite i → readReg t r = readReg s r) ∧ (∀ b, bandWritten i ≠ some b → band t b = band s b)

/-- PULSE is read-only to every operation, FB is written by DECODE alone, TXF by TXBUILD and TXSEND alone, TRACE by TXFRAME and
TXSEND, EVENTS by EMIT (10_state.md R31, R32). -/
def Obligations.OperationsWriteTheirOwnMemoriesOnly : Prop :=
  ∀ (i : Instr) (s t : State), exec i s = .next t →
    (∀ j, pulseAt t j = pulseAt s j) ∧
    (writesFb i = false → ∀ j, fbAt t j = fbAt s j) ∧
    (writesTxf i = false → ∀ j, txfAt t j = txfAt s j) ∧
    (drivesLine i = false → t.trace = s.trace) ∧
    (emitsRecord i = false → t.events = s.events) ∧
    t.pending = s.pending

/-- 00_scope.md R9: the histories are append-only, but for reset. -/
def Obligations.HistoriesOnlyGrow : Prop :=
  ∀ s t : State, (∀ rest, s.pending ≠ .reset :: rest) → step s = .next t → s.trace <+: t.trace ∧ s.events <+: t.events

/-! ## Invariants -/

/-- The codes and counts of the registers stay legal, from every legal state. That RXCMD stays below 5 where the spec calls it
unspecified is the model's reading (log 9). -/
def Obligations.StepKeepsRegistersLegal : Prop := ∀ s t : State, RegisterInv s → step s = .next t → RegisterInv t

/-- They are legal after reset (RXCMD below 5 there: log 9). -/
def Obligations.ResetRegistersAreLegal : Prop := ∀ n, RegisterInv (State.resetAt n)

/-- The memories stay in their canonical form, which is the model's (log 15). -/
def Obligations.StepKeepsMemoriesCanonical : Prop := ∀ s t : State, MemoryInv s → step s = .next t → MemoryInv t

/-- They are so after reset. -/
def Obligations.ResetMemoriesAreCanonical : Prop := MemoryInv State.reset

/-- The valid guards keep their promises. -/
def Obligations.StepKeepsGuardedContents : Prop := ∀ s t : State, GuardInv s → step s = .next t → GuardInv t

/-- TRACE holds no segment without length and EVENTS no Release. -/
def Obligations.StepKeepsHistoriesLegal : Prop :=
  ∀ s t : State, HistoryInv s → step s = .next t → HistoryInv t

/-- Guards and histories after reset. -/
def Obligations.ResetGuardsAndHistoriesHold : Prop := GuardInv State.reset ∧ HistoryInv State.reset
end

