-- ==== Sys2Proof/Laws/Memory.lean ====
section
/-! SUPPORT. Laws/Memory.lean: reads after writes, and that every memory operation keeps the canonical form. -/

namespace Sys2Proof.Machine

variable {w : Nat}

@[simp] theorem Memory.read?_nil (i : Nat) : Memory.read? ([] : Memory w) i = none := rfl

/-- An element just written reads as what was written. -/
@[simp] theorem Memory.read?_write_same (m : Memory w) (i : Nat) (v : BitVec w) :
    Memory.read? (Memory.write m i v) i = some v := by
  induction m with
  | nil => simp [Memory.write, Memory.read?]
  | cons c m ih =>
    obtain ⟨j, u⟩ := c
    simp only [Memory.write]
    split
    · simp [Memory.read?]
    · split
      · simp [Memory.read?]
      · rename_i h
        simp [Memory.read?, h, ih]

/-- A write leaves every other element alone. -/
theorem Memory.read?_write_other (m : Memory w) {i k : Nat} (v : BitVec w) (h : k ≠ i) :
    Memory.read? (Memory.write m i v) k = Memory.read? m k := by
  induction m with
  | nil => simp [Memory.write, Memory.read?, h]
  | cons c m ih =>
    obtain ⟨j, u⟩ := c
    simp only [Memory.write]
    split
    · simp [Memory.read?, h]
    · split
      · subst_vars
        simp [Memory.read?, h]
      · simp [Memory.read?, ih]

/-- Several writes leave every element they do not name alone. -/
theorem Memory.read?_foldl_write_other (ps : List (Nat × BitVec w)) (m : Memory w) {i : Nat} (h : i ∉ ps.map Prod.fst) :
    Memory.read? (ps.foldl (fun m p => Memory.write m p.1 p.2) m) i = Memory.read? m i := by
  induction ps generalizing m with
  | nil => rfl
  | cons p ps ih =>
    simp only [List.map_cons, List.mem_cons, not_or] at h
    rw [List.foldl_cons, ih _ h.2, Memory.read?_write_other _ _ h.1]

/-- The indices listed after a write. -/
theorem Memory.mem_keys_write (m : Memory w) (i k : Nat) (v : BitVec w) :
    k ∈ (Memory.write m i v).map Prod.fst ↔ k = i ∨ k ∈ m.map Prod.fst := by
  induction m with
  | nil => simp [Memory.write]
  | cons c m ih =>
    obtain ⟨j, u⟩ := c
    simp only [Memory.write]
    split
    · simp
    · split
      · subst_vars
        simp
      · simp only [List.map_cons, List.mem_cons, ih]
        tauto

/-- A write inside the memory keeps the canonical form. -/
theorem Memory.write_wf {size : Nat} {m : Memory w} (hm : Memory.wf size m) {i : Nat} (hi : i < size) (v : BitVec w) :
    Memory.wf size (Memory.write m i v) := by
  refine ⟨?_, fun k hk => ?_⟩
  · obtain ⟨hp, -⟩ := hm
    induction m with
    | nil => simp [Memory.write]
    | cons c m ih =>
      obtain ⟨j, u⟩ := c
      simp only [List.map_cons, List.pairwise_cons] at hp
      simp only [Memory.write]
      split
      · rename_i hij
        simp only [List.map_cons, List.pairwise_cons, List.mem_cons]
        exact ⟨fun k hk => hk.elim (fun e => e ▸ hij) (fun e => Nat.lt_trans hij (hp.1 k e)), hp⟩
      · split
        · subst_vars
          simpa using hp
        · rename_i h1 h2
          simp only [List.map_cons, List.pairwise_cons]
          refine ⟨fun k hk => ?_, ih hp.2⟩
          rcases (Memory.mem_keys_write m i k v).1 hk with rfl | hk
          · omega
          · exact hp.1 k hk
  · rcases (Memory.mem_keys_write m i k v).1 hk with rfl | hk
    · exact hi
    · exact hm.2 k hk

/-- Several writes inside the memory keep the canonical form. -/
theorem Memory.foldl_write_wf {size : Nat} (ps : List (Nat × BitVec w)) {m : Memory w} (hm : Memory.wf size m)
    (hps : ∀ p ∈ ps, p.1 < size) : Memory.wf size (ps.foldl (fun m p => Memory.write m p.1 p.2) m) := by
  induction ps generalizing m with
  | nil => exact hm
  | cons p ps ih =>
    simp only [List.mem_cons, forall_eq_or_imp] at hps
    exact ih (Memory.write_wf hm hps.1 p.2) hps.2

theorem Memory.map_fst_listFrom (k : Nat) (xs : List (BitVec w)) :
    (Memory.listFrom k xs).map Prod.fst = List.range' k xs.length := by
  induction xs generalizing k with
  | nil => rfl
  | cons x xs ih => simp [Memory.listFrom, ih, List.range'_succ]

/-- A memory written whole is in canonical form. -/
theorem Memory.ofList_wf {size : Nat} (xs : List (BitVec w)) (h : xs.length ≤ size) :
    Memory.wf size (Memory.ofList xs) := by
  refine ⟨?_, fun i hi => ?_⟩
  · rw [Memory.ofList, Memory.map_fst_listFrom]
    exact List.pairwise_lt_range'
  · rw [Memory.ofList, Memory.map_fst_listFrom, List.mem_range'_1] at hi
    omega

theorem Memory.read?_listFrom (k i : Nat) (xs : List (BitVec w)) :
    Memory.read? (Memory.listFrom k xs) i = if k ≤ i then xs[i - k]? else none := by
  induction xs generalizing k with
  | nil => simp [Memory.listFrom]
  | cons x xs ih =>
    simp only [Memory.listFrom, Memory.read?, ih]
    rcases Nat.lt_trichotomy i k with h | rfl | h
    · have h1 : ¬ i = k := by omega
      have h2 : ¬ k ≤ i := by omega
      have h3 : ¬ k + 1 ≤ i := by omega
      simp [h1, h2, h3]
    · simp
    · have h1 : ¬ i = k := by omega
      have h2 : k ≤ i := by omega
      have h3 : k + 1 ≤ i := by omega
      have h4 : i - k = (i - (k + 1)) + 1 := by omega
      simp [h1, h2, h3, h4]

/-- A memory written whole reads as the list it was written from. -/
@[simp] theorem Memory.read?_ofList (i : Nat) (xs : List (BitVec w)) : Memory.read? (Memory.ofList xs) i = xs[i]? := by
  simp [Memory.ofList, Memory.read?_listFrom]

theorem Memory.read?_eq_none_of_not_mem (m : Memory w) {i : Nat} (h : i ∉ m.map Prod.fst) : Memory.read? m i = none := by
  induction m with
  | nil => rfl
  | cons c m ih =>
    simp only [List.map_cons, List.mem_cons, not_or] at h
    simp [Memory.read?, h.1, ih h.2]

/-- Equal memories are equal data: two memories in canonical form that read alike are the same list. -/
theorem Memory.eq_of_read? {size : Nat} {m n : Memory w} (hm : Memory.wf size m) (hn : Memory.wf size n)
    (h : ∀ i, Memory.read? m i = Memory.read? n i) : m = n := by
  obtain ⟨pm, -⟩ := hm
  obtain ⟨pn, -⟩ := hn
  induction m generalizing n with
  | nil =>
    cases n with
    | nil => rfl
    | cons d n => simpa [Memory.read?] using h d.1
  | cons c m ih =>
    obtain ⟨j, u⟩ := c
    cases n with
    | nil => simpa [Memory.read?] using h j
    | cons d n =>
      obtain ⟨k, v⟩ := d
      simp only [List.map_cons, List.pairwise_cons] at pm pn
      have notm : ∀ i, i ≤ j → Memory.read? m i = none := fun i hi =>
        Memory.read?_eq_none_of_not_mem m fun hmem => by have := pm.1 i hmem; omega
      have notn : ∀ i, i ≤ k → Memory.read? n i = none := fun i hi =>
        Memory.read?_eq_none_of_not_mem n fun hmem => by have := pn.1 i hmem; omega
      have hjk : j = k := by
        rcases Nat.lt_trichotomy j k with hlt | heq | hgt
        · have hj := h j
          have hne : ¬ j = k := by omega
          simp [Memory.read?, hne, notn j (by omega)] at hj
        · exact heq
        · have hk := h k
          have hne : ¬ k = j := by omega
          simp [Memory.read?, hne, notm k (by omega)] at hk
      subst hjk
      have huv : u = v := by simpa [Memory.read?] using h j
      subst huv
      have : m = n := ih (fun i => by
        by_cases hi : i = j
        · subst hi
          rw [notm i (Nat.le_refl i), notn i (Nat.le_refl i)]
        · simpa [Memory.read?, hi] using h i) pm.2 pn.2
      rw [this]

end Sys2Proof.Machine
end

