-- ==== Sys2Proof/Laws/Flags.lean ====
section
/-! SUPPORT. Laws/Flags.lean: the fields of ST after it is written, and the comparator as arithmetic. -/

namespace Sys2Proof.Machine

@[simp] theorem statusOk_answer (st : BitVec 8) (ok dup : Bool) (r : Reason) : statusOk (statusAnswer st ok dup r) = ok := by
  simp [statusOk, statusAnswer]

@[simp] theorem statusDup_answer (st : BitVec 8) (ok dup : Bool) (r : Reason) :
    statusDup (statusAnswer st ok dup r) = dup := by
  simp [statusDup, statusAnswer]

@[simp] theorem statusReason_answer (st : BitVec 8) (ok dup : Bool) (r : Reason) :
    statusReason (statusAnswer st ok dup r) = r.code := by
  apply BitVec.eq_of_getLsbD_eq
  intro i hi
  have : i = 0 ∨ i = 1 ∨ i = 2 := by omega
  rcases this with rfl | rfl | rfl <;> simp [statusReason, statusAnswer]

@[simp] theorem statusReserved_answer (st : BitVec 8) (ok dup : Bool) (r : Reason) :
    statusReserved (statusAnswer st ok dup r) = statusReserved st := by
  apply BitVec.eq_of_getLsbD_eq
  intro i hi
  have : i = 0 ∨ i = 1 := by omega
  rcases this with rfl | rfl <;> simp [statusReserved, statusAnswer]

@[simp] theorem statusCfgErr_answer (st : BitVec 8) (ok dup : Bool) (r : Reason) :
    statusCfgErr (statusAnswer st ok dup r) = statusCfgErr st := by
  simp [statusCfgErr, statusAnswer]

@[simp] theorem statusOk_mark (st : BitVec 8) : statusOk (statusMark st) = statusOk st := by
  simp [statusOk, statusMark]

@[simp] theorem statusDup_mark (st : BitVec 8) : statusDup (statusMark st) = statusDup st := by
  simp [statusDup, statusMark]

@[simp] theorem statusReason_mark (st : BitVec 8) : statusReason (statusMark st) = statusReason st := by
  apply BitVec.eq_of_getLsbD_eq
  intro i hi
  have : i = 0 ∨ i = 1 ∨ i = 2 := by omega
  rcases this with rfl | rfl | rfl <;> simp [statusReason, statusMark]

@[simp] theorem statusReserved_mark (st : BitVec 8) : statusReserved (statusMark st) = statusReserved st := by
  apply BitVec.eq_of_getLsbD_eq
  intro i hi
  have : i = 0 ∨ i = 1 := by omega
  rcases this with rfl | rfl <;> simp [statusReserved, statusMark]

@[simp] theorem statusCfgErr_mark (st : BitVec 8) : statusCfgErr (statusMark st) = true := by
  simp [statusCfgErr, statusMark]

/-- The comparator on natural numbers. -/
theorem inBand_iff (d lo hi : Sample) : inBand d lo hi = true ↔ lo.toNat ≤ d.toNat ∧ d.toNat ≤ hi.toNat := by
  simp [inBand, Config.boundInclusive, BitVec.le_def]

/-- The gate on natural numbers. -/
theorem inGate_iff (n lo hi : BitVec 16) : inGate n lo hi = true ↔ lo.toNat ≤ n.toNat ∧ n.toNat ≤ hi.toNat := by
  simp [inGate, BitVec.le_def]

/-- Overlap on natural numbers. -/
theorem overlap_iff (lo1 hi1 lo2 hi2 : Sample) :
    overlap lo1 hi1 lo2 hi2 = true ↔ max lo1.toNat lo2.toNat ≤ min hi1.toNat hi2.toNat := by
  simp [overlap]

/-- The age on natural numbers: the 32-bit wrapping difference. -/
theorem age_toNat (now last : BitVec 32) : (age now last).toNat = (now.toNat + 2 ^ 32 - last.toNat) % 2 ^ 32 := by
  have := last.isLt
  rw [age, BitVec.toNat_sub]
  congr 1
  omega

@[simp] theorem Reason.code_lt (r : Reason) : r.code.toNat < 7 := by cases r <;> decide

@[simp] theorem Cause.code_lt (c : Cause) : c.code.toNat < 7 := by cases c <;> decide

@[simp] theorem Cause.code_ne_zero (c : Cause) : c.code ≠ 0#4 := by cases c <;> decide

@[simp] theorem Command.code_lt (c : Command) : c.code.toNat < 5 := by cases c <;> decide

theorem Command.code_injective {c d : Command} (h : c.code = d.code) : c = d := by
  cases c <;> cases d <;> first | rfl | exact absurd h (by decide)

end Sys2Proof.Machine
end

