-- ==== Sys2Proof/Laws/State.lean ====
section
/-! SUPPORT. Laws/State.lean: each field of State after each named update, true by rfl, and ST's fields after the updates that
write it. -/

namespace Sys2Proof.Machine

/-! ## setAnswer -/

@[simp] theorem setAnswer_st (ok dup : Bool) (r : Reason) (s : State) :
    (setAnswer ok dup r s).st = statusAnswer s.st ok dup r := rfl
@[simp] theorem setAnswer_cfgCause (ok dup : Bool) (r : Reason) (s : State) :
    (setAnswer ok dup r s).cfgCause = s.cfgCause := rfl
@[simp] theorem setAnswer_multiply (ok dup : Bool) (r : Reason) (s : State) :
    (setAnswer ok dup r s).multiply = s.multiply := rfl
@[simp] theorem setAnswer_number (ok dup : Bool) (r : Reason) (s : State) :
    (setAnswer ok dup r s).number = s.number := rfl
@[simp] theorem setAnswer_repeats (ok dup : Bool) (r : Reason) (s : State) :
    (setAnswer ok dup r s).repeats = s.repeats := rfl
@[simp] theorem setAnswer_bands (ok dup : Bool) (r : Reason) (s : State) :
    (setAnswer ok dup r s).bands = s.bands := rfl
@[simp] theorem setAnswer_matchReg (ok dup : Bool) (r : Reason) (s : State) :
    (setAnswer ok dup r s).matchReg = s.matchReg := rfl
@[simp] theorem setAnswer_fbBits (ok dup : Bool) (r : Reason) (s : State) :
    (setAnswer ok dup r s).fbBits = s.fbBits := rfl
@[simp] theorem setAnswer_sum (ok dup : Bool) (r : Reason) (s : State) : (setAnswer ok dup r s).sum = s.sum := rfl
@[simp] theorem setAnswer_rxId (ok dup : Bool) (r : Reason) (s : State) : (setAnswer ok dup r s).rxId = s.rxId := rfl
@[simp] theorem setAnswer_rxNode (ok dup : Bool) (r : Reason) (s : State) :
    (setAnswer ok dup r s).rxNode = s.rxNode := rfl
@[simp] theorem setAnswer_rxCode (ok dup : Bool) (r : Reason) (s : State) :
    (setAnswer ok dup r s).rxCode = s.rxCode := rfl
@[simp] theorem setAnswer_rxCmd (ok dup : Bool) (r : Reason) (s : State) :
    (setAnswer ok dup r s).rxCmd = s.rxCmd := rfl
@[simp] theorem setAnswer_rxValid (ok dup : Bool) (r : Reason) (s : State) :
    (setAnswer ok dup r s).rxValid = s.rxValid := rfl
@[simp] theorem setAnswer_fpLast (ok dup : Bool) (r : Reason) (s : State) :
    (setAnswer ok dup r s).fpLast = s.fpLast := rfl
@[simp] theorem setAnswer_tLast (ok dup : Bool) (r : Reason) (s : State) :
    (setAnswer ok dup r s).tLast = s.tLast := rfl
@[simp] theorem setAnswer_fpValid (ok dup : Bool) (r : Reason) (s : State) :
    (setAnswer ok dup r s).fpValid = s.fpValid := rfl
@[simp] theorem setAnswer_hash (ok dup : Bool) (r : Reason) (s : State) : (setAnswer ok dup r s).hash = s.hash := rfl
@[simp] theorem setAnswer_hashPrev (ok dup : Bool) (r : Reason) (s : State) :
    (setAnswer ok dup r s).hashPrev = s.hashPrev := rfl
@[simp] theorem setAnswer_txfValid (ok dup : Bool) (r : Reason) (s : State) :
    (setAnswer ok dup r s).txfValid = s.txfValid := rfl
@[simp] theorem setAnswer_line (ok dup : Bool) (r : Reason) (s : State) : (setAnswer ok dup r s).line = s.line := rfl
@[simp] theorem setAnswer_pulse (ok dup : Bool) (r : Reason) (s : State) :
    (setAnswer ok dup r s).pulse = s.pulse := rfl
@[simp] theorem setAnswer_fb (ok dup : Bool) (r : Reason) (s : State) : (setAnswer ok dup r s).fb = s.fb := rfl
@[simp] theorem setAnswer_txf (ok dup : Bool) (r : Reason) (s : State) : (setAnswer ok dup r s).txf = s.txf := rfl
@[simp] theorem setAnswer_trace (ok dup : Bool) (r : Reason) (s : State) :
    (setAnswer ok dup r s).trace = s.trace := rfl
@[simp] theorem setAnswer_events (ok dup : Bool) (r : Reason) (s : State) :
    (setAnswer ok dup r s).events = s.events := rfl
@[simp] theorem setAnswer_pending (ok dup : Bool) (r : Reason) (s : State) :
    (setAnswer ok dup r s).pending = s.pending := rfl
@[simp] theorem setAnswer_draws (ok dup : Bool) (r : Reason) (s : State) :
    (setAnswer ok dup r s).draws = s.draws := rfl
@[simp] theorem setAnswer_epoch (ok dup : Bool) (r : Reason) (s : State) :
    (setAnswer ok dup r s).epoch = s.epoch := rfl

/-! ## markConfigFault -/

@[simp] theorem markConfigFault_st (c : Cause) (s : State) : (markConfigFault c s).st = statusMark s.st := rfl
@[simp] theorem markConfigFault_cfgCause (c : Cause) (s : State) :
    (markConfigFault c s).cfgCause = if s.cfgErr then s.cfgCause else c.code := rfl
@[simp] theorem markConfigFault_multiply (c : Cause) (s : State) : (markConfigFault c s).multiply = s.multiply := rfl
@[simp] theorem markConfigFault_number (c : Cause) (s : State) : (markConfigFault c s).number = s.number := rfl
@[simp] theorem markConfigFault_repeats (c : Cause) (s : State) : (markConfigFault c s).repeats = s.repeats := rfl
@[simp] theorem markConfigFault_bands (c : Cause) (s : State) : (markConfigFault c s).bands = s.bands := rfl
@[simp] theorem markConfigFault_matchReg (c : Cause) (s : State) : (markConfigFault c s).matchReg = s.matchReg := rfl
@[simp] theorem markConfigFault_fbBits (c : Cause) (s : State) : (markConfigFault c s).fbBits = s.fbBits := rfl
@[simp] theorem markConfigFault_sum (c : Cause) (s : State) : (markConfigFault c s).sum = s.sum := rfl
@[simp] theorem markConfigFault_rxId (c : Cause) (s : State) : (markConfigFault c s).rxId = s.rxId := rfl
@[simp] theorem markConfigFault_rxNode (c : Cause) (s : State) : (markConfigFault c s).rxNode = s.rxNode := rfl
@[simp] theorem markConfigFault_rxCode (c : Cause) (s : State) : (markConfigFault c s).rxCode = s.rxCode := rfl
@[simp] theorem markConfigFault_rxCmd (c : Cause) (s : State) : (markConfigFault c s).rxCmd = s.rxCmd := rfl
@[simp] theorem markConfigFault_rxValid (c : Cause) (s : State) : (markConfigFault c s).rxValid = s.rxValid := rfl
@[simp] theorem markConfigFault_fpLast (c : Cause) (s : State) : (markConfigFault c s).fpLast = s.fpLast := rfl
@[simp] theorem markConfigFault_tLast (c : Cause) (s : State) : (markConfigFault c s).tLast = s.tLast := rfl
@[simp] theorem markConfigFault_fpValid (c : Cause) (s : State) : (markConfigFault c s).fpValid = s.fpValid := rfl
@[simp] theorem markConfigFault_hash (c : Cause) (s : State) : (markConfigFault c s).hash = s.hash := rfl
@[simp] theorem markConfigFault_hashPrev (c : Cause) (s : State) : (markConfigFault c s).hashPrev = s.hashPrev := rfl
@[simp] theorem markConfigFault_txfValid (c : Cause) (s : State) : (markConfigFault c s).txfValid = s.txfValid := rfl
@[simp] theorem markConfigFault_line (c : Cause) (s : State) : (markConfigFault c s).line = s.line := rfl
@[simp] theorem markConfigFault_pulse (c : Cause) (s : State) : (markConfigFault c s).pulse = s.pulse := rfl
@[simp] theorem markConfigFault_fb (c : Cause) (s : State) : (markConfigFault c s).fb = s.fb := rfl
@[simp] theorem markConfigFault_txf (c : Cause) (s : State) : (markConfigFault c s).txf = s.txf := rfl
@[simp] theorem markConfigFault_trace (c : Cause) (s : State) : (markConfigFault c s).trace = s.trace := rfl
@[simp] theorem markConfigFault_events (c : Cause) (s : State) : (markConfigFault c s).events = s.events := rfl
@[simp] theorem markConfigFault_pending (c : Cause) (s : State) : (markConfigFault c s).pending = s.pending := rfl
@[simp] theorem markConfigFault_draws (c : Cause) (s : State) : (markConfigFault c s).draws = s.draws := rfl
@[simp] theorem markConfigFault_epoch (c : Cause) (s : State) : (markConfigFault c s).epoch = s.epoch := rfl

/-! ## setBand -/

@[simp] theorem setBand_st (i : Fin 4) (x : Band) (s : State) : (setBand i x s).st = s.st := rfl
@[simp] theorem setBand_cfgCause (i : Fin 4) (x : Band) (s : State) : (setBand i x s).cfgCause = s.cfgCause := rfl
@[simp] theorem setBand_multiply (i : Fin 4) (x : Band) (s : State) : (setBand i x s).multiply = s.multiply := rfl
@[simp] theorem setBand_number (i : Fin 4) (x : Band) (s : State) : (setBand i x s).number = s.number := rfl
@[simp] theorem setBand_repeats (i : Fin 4) (x : Band) (s : State) : (setBand i x s).repeats = s.repeats := rfl
@[simp] theorem setBand_bands (i : Fin 4) (x : Band) (s : State) : (setBand i x s).bands = s.bands.set i x := rfl
@[simp] theorem setBand_matchReg (i : Fin 4) (x : Band) (s : State) : (setBand i x s).matchReg = s.matchReg := rfl
@[simp] theorem setBand_fbBits (i : Fin 4) (x : Band) (s : State) : (setBand i x s).fbBits = s.fbBits := rfl
@[simp] theorem setBand_sum (i : Fin 4) (x : Band) (s : State) : (setBand i x s).sum = s.sum := rfl
@[simp] theorem setBand_rxId (i : Fin 4) (x : Band) (s : State) : (setBand i x s).rxId = s.rxId := rfl
@[simp] theorem setBand_rxNode (i : Fin 4) (x : Band) (s : State) : (setBand i x s).rxNode = s.rxNode := rfl
@[simp] theorem setBand_rxCode (i : Fin 4) (x : Band) (s : State) : (setBand i x s).rxCode = s.rxCode := rfl
@[simp] theorem setBand_rxCmd (i : Fin 4) (x : Band) (s : State) : (setBand i x s).rxCmd = s.rxCmd := rfl
@[simp] theorem setBand_rxValid (i : Fin 4) (x : Band) (s : State) : (setBand i x s).rxValid = s.rxValid := rfl
@[simp] theorem setBand_fpLast (i : Fin 4) (x : Band) (s : State) : (setBand i x s).fpLast = s.fpLast := rfl
@[simp] theorem setBand_tLast (i : Fin 4) (x : Band) (s : State) : (setBand i x s).tLast = s.tLast := rfl
@[simp] theorem setBand_fpValid (i : Fin 4) (x : Band) (s : State) : (setBand i x s).fpValid = s.fpValid := rfl
@[simp] theorem setBand_hash (i : Fin 4) (x : Band) (s : State) : (setBand i x s).hash = s.hash := rfl
@[simp] theorem setBand_hashPrev (i : Fin 4) (x : Band) (s : State) : (setBand i x s).hashPrev = s.hashPrev := rfl
@[simp] theorem setBand_txfValid (i : Fin 4) (x : Band) (s : State) : (setBand i x s).txfValid = s.txfValid := rfl
@[simp] theorem setBand_line (i : Fin 4) (x : Band) (s : State) : (setBand i x s).line = s.line := rfl
@[simp] theorem setBand_pulse (i : Fin 4) (x : Band) (s : State) : (setBand i x s).pulse = s.pulse := rfl
@[simp] theorem setBand_fb (i : Fin 4) (x : Band) (s : State) : (setBand i x s).fb = s.fb := rfl
@[simp] theorem setBand_txf (i : Fin 4) (x : Band) (s : State) : (setBand i x s).txf = s.txf := rfl
@[simp] theorem setBand_trace (i : Fin 4) (x : Band) (s : State) : (setBand i x s).trace = s.trace := rfl
@[simp] theorem setBand_events (i : Fin 4) (x : Band) (s : State) : (setBand i x s).events = s.events := rfl
@[simp] theorem setBand_pending (i : Fin 4) (x : Band) (s : State) : (setBand i x s).pending = s.pending := rfl
@[simp] theorem setBand_draws (i : Fin 4) (x : Band) (s : State) : (setBand i x s).draws = s.draws := rfl
@[simp] theorem setBand_epoch (i : Fin 4) (x : Band) (s : State) : (setBand i x s).epoch = s.epoch := rfl

/-! ## fbWrite -/

@[simp] theorem fbWrite_st (j : Nat) (v : Byte) (s : State) : (fbWrite j v s).st = s.st := rfl
@[simp] theorem fbWrite_cfgCause (j : Nat) (v : Byte) (s : State) : (fbWrite j v s).cfgCause = s.cfgCause := rfl
@[simp] theorem fbWrite_multiply (j : Nat) (v : Byte) (s : State) : (fbWrite j v s).multiply = s.multiply := rfl
@[simp] theorem fbWrite_number (j : Nat) (v : Byte) (s : State) : (fbWrite j v s).number = s.number := rfl
@[simp] theorem fbWrite_repeats (j : Nat) (v : Byte) (s : State) : (fbWrite j v s).repeats = s.repeats := rfl
@[simp] theorem fbWrite_bands (j : Nat) (v : Byte) (s : State) : (fbWrite j v s).bands = s.bands := rfl
@[simp] theorem fbWrite_matchReg (j : Nat) (v : Byte) (s : State) : (fbWrite j v s).matchReg = s.matchReg := rfl
@[simp] theorem fbWrite_fbBits (j : Nat) (v : Byte) (s : State) : (fbWrite j v s).fbBits = s.fbBits := rfl
@[simp] theorem fbWrite_sum (j : Nat) (v : Byte) (s : State) : (fbWrite j v s).sum = s.sum := rfl
@[simp] theorem fbWrite_rxId (j : Nat) (v : Byte) (s : State) : (fbWrite j v s).rxId = s.rxId := rfl
@[simp] theorem fbWrite_rxNode (j : Nat) (v : Byte) (s : State) : (fbWrite j v s).rxNode = s.rxNode := rfl
@[simp] theorem fbWrite_rxCode (j : Nat) (v : Byte) (s : State) : (fbWrite j v s).rxCode = s.rxCode := rfl
@[simp] theorem fbWrite_rxCmd (j : Nat) (v : Byte) (s : State) : (fbWrite j v s).rxCmd = s.rxCmd := rfl
@[simp] theorem fbWrite_rxValid (j : Nat) (v : Byte) (s : State) : (fbWrite j v s).rxValid = s.rxValid := rfl
@[simp] theorem fbWrite_fpLast (j : Nat) (v : Byte) (s : State) : (fbWrite j v s).fpLast = s.fpLast := rfl
@[simp] theorem fbWrite_tLast (j : Nat) (v : Byte) (s : State) : (fbWrite j v s).tLast = s.tLast := rfl
@[simp] theorem fbWrite_fpValid (j : Nat) (v : Byte) (s : State) : (fbWrite j v s).fpValid = s.fpValid := rfl
@[simp] theorem fbWrite_hash (j : Nat) (v : Byte) (s : State) : (fbWrite j v s).hash = s.hash := rfl
@[simp] theorem fbWrite_hashPrev (j : Nat) (v : Byte) (s : State) : (fbWrite j v s).hashPrev = s.hashPrev := rfl
@[simp] theorem fbWrite_txfValid (j : Nat) (v : Byte) (s : State) : (fbWrite j v s).txfValid = s.txfValid := rfl
@[simp] theorem fbWrite_line (j : Nat) (v : Byte) (s : State) : (fbWrite j v s).line = s.line := rfl
@[simp] theorem fbWrite_pulse (j : Nat) (v : Byte) (s : State) : (fbWrite j v s).pulse = s.pulse := rfl
@[simp] theorem fbWrite_fb (j : Nat) (v : Byte) (s : State) : (fbWrite j v s).fb = Memory.write s.fb j v := rfl
@[simp] theorem fbWrite_txf (j : Nat) (v : Byte) (s : State) : (fbWrite j v s).txf = s.txf := rfl
@[simp] theorem fbWrite_trace (j : Nat) (v : Byte) (s : State) : (fbWrite j v s).trace = s.trace := rfl
@[simp] theorem fbWrite_events (j : Nat) (v : Byte) (s : State) : (fbWrite j v s).events = s.events := rfl
@[simp] theorem fbWrite_pending (j : Nat) (v : Byte) (s : State) : (fbWrite j v s).pending = s.pending := rfl
@[simp] theorem fbWrite_draws (j : Nat) (v : Byte) (s : State) : (fbWrite j v s).draws = s.draws := rfl
@[simp] theorem fbWrite_epoch (j : Nat) (v : Byte) (s : State) : (fbWrite j v s).epoch = s.epoch := rfl

/-! ## clearFb -/

@[simp] theorem clearFb_st (s : State) : (clearFb s).st = s.st := rfl
@[simp] theorem clearFb_cfgCause (s : State) : (clearFb s).cfgCause = s.cfgCause := rfl
@[simp] theorem clearFb_multiply (s : State) : (clearFb s).multiply = s.multiply := rfl
@[simp] theorem clearFb_number (s : State) : (clearFb s).number = s.number := rfl
@[simp] theorem clearFb_repeats (s : State) : (clearFb s).repeats = s.repeats := rfl
@[simp] theorem clearFb_bands (s : State) : (clearFb s).bands = s.bands := rfl
@[simp] theorem clearFb_matchReg (s : State) : (clearFb s).matchReg = s.matchReg := rfl
@[simp] theorem clearFb_fbBits (s : State) : (clearFb s).fbBits = 0 := rfl
@[simp] theorem clearFb_sum (s : State) : (clearFb s).sum = s.sum := rfl
@[simp] theorem clearFb_rxId (s : State) : (clearFb s).rxId = s.rxId := rfl
@[simp] theorem clearFb_rxNode (s : State) : (clearFb s).rxNode = s.rxNode := rfl
@[simp] theorem clearFb_rxCode (s : State) : (clearFb s).rxCode = s.rxCode := rfl
@[simp] theorem clearFb_rxCmd (s : State) : (clearFb s).rxCmd = s.rxCmd := rfl
@[simp] theorem clearFb_rxValid (s : State) : (clearFb s).rxValid = s.rxValid := rfl
@[simp] theorem clearFb_fpLast (s : State) : (clearFb s).fpLast = s.fpLast := rfl
@[simp] theorem clearFb_tLast (s : State) : (clearFb s).tLast = s.tLast := rfl
@[simp] theorem clearFb_fpValid (s : State) : (clearFb s).fpValid = s.fpValid := rfl
@[simp] theorem clearFb_hash (s : State) : (clearFb s).hash = s.hash := rfl
@[simp] theorem clearFb_hashPrev (s : State) : (clearFb s).hashPrev = s.hashPrev := rfl
@[simp] theorem clearFb_txfValid (s : State) : (clearFb s).txfValid = s.txfValid := rfl
@[simp] theorem clearFb_line (s : State) : (clearFb s).line = s.line := rfl
@[simp] theorem clearFb_pulse (s : State) : (clearFb s).pulse = s.pulse := rfl
@[simp] theorem clearFb_fb (s : State) : (clearFb s).fb = Memory.ofList (List.replicate Config.frameMax 0x00) := rfl
@[simp] theorem clearFb_txf (s : State) : (clearFb s).txf = s.txf := rfl
@[simp] theorem clearFb_trace (s : State) : (clearFb s).trace = s.trace := rfl
@[simp] theorem clearFb_events (s : State) : (clearFb s).events = s.events := rfl
@[simp] theorem clearFb_pending (s : State) : (clearFb s).pending = s.pending := rfl
@[simp] theorem clearFb_draws (s : State) : (clearFb s).draws = s.draws := rfl
@[simp] theorem clearFb_epoch (s : State) : (clearFb s).epoch = s.epoch := rfl

/-! ## forgetFb -/

@[simp] theorem forgetFb_st (s : State) : (forgetFb s).st = s.st := rfl
@[simp] theorem forgetFb_cfgCause (s : State) : (forgetFb s).cfgCause = s.cfgCause := rfl
@[simp] theorem forgetFb_multiply (s : State) : (forgetFb s).multiply = s.multiply := rfl
@[simp] theorem forgetFb_number (s : State) : (forgetFb s).number = s.number := rfl
@[simp] theorem forgetFb_repeats (s : State) : (forgetFb s).repeats = s.repeats := rfl
@[simp] theorem forgetFb_bands (s : State) : (forgetFb s).bands = s.bands := rfl
@[simp] theorem forgetFb_matchReg (s : State) : (forgetFb s).matchReg = s.matchReg := rfl
@[simp] theorem forgetFb_fbBits (s : State) : (forgetFb s).fbBits = 0 := rfl
@[simp] theorem forgetFb_sum (s : State) : (forgetFb s).sum = s.sum := rfl
@[simp] theorem forgetFb_rxId (s : State) : (forgetFb s).rxId = s.rxId := rfl
@[simp] theorem forgetFb_rxNode (s : State) : (forgetFb s).rxNode = s.rxNode := rfl
@[simp] theorem forgetFb_rxCode (s : State) : (forgetFb s).rxCode = s.rxCode := rfl
@[simp] theorem forgetFb_rxCmd (s : State) : (forgetFb s).rxCmd = s.rxCmd := rfl
@[simp] theorem forgetFb_rxValid (s : State) : (forgetFb s).rxValid = s.rxValid := rfl
@[simp] theorem forgetFb_fpLast (s : State) : (forgetFb s).fpLast = s.fpLast := rfl
@[simp] theorem forgetFb_tLast (s : State) : (forgetFb s).tLast = s.tLast := rfl
@[simp] theorem forgetFb_fpValid (s : State) : (forgetFb s).fpValid = s.fpValid := rfl
@[simp] theorem forgetFb_hash (s : State) : (forgetFb s).hash = s.hash := rfl
@[simp] theorem forgetFb_hashPrev (s : State) : (forgetFb s).hashPrev = s.hashPrev := rfl
@[simp] theorem forgetFb_txfValid (s : State) : (forgetFb s).txfValid = s.txfValid := rfl
@[simp] theorem forgetFb_line (s : State) : (forgetFb s).line = s.line := rfl
@[simp] theorem forgetFb_pulse (s : State) : (forgetFb s).pulse = s.pulse := rfl
@[simp] theorem forgetFb_fb (s : State) :
    (forgetFb s).fb = Memory.ofList ((List.range Config.frameMax).map (Config.rejectedFb s.draws)) := rfl
@[simp] theorem forgetFb_txf (s : State) : (forgetFb s).txf = s.txf := rfl
@[simp] theorem forgetFb_trace (s : State) : (forgetFb s).trace = s.trace := rfl
@[simp] theorem forgetFb_events (s : State) : (forgetFb s).events = s.events := rfl
@[simp] theorem forgetFb_pending (s : State) : (forgetFb s).pending = s.pending := rfl
@[simp] theorem forgetFb_draws (s : State) : (forgetFb s).draws = s.draws + 1 := rfl
@[simp] theorem forgetFb_epoch (s : State) : (forgetFb s).epoch = s.epoch := rfl

/-! ## forgetRx -/

@[simp] theorem forgetRx_st (s : State) : (forgetRx s).st = s.st := rfl
@[simp] theorem forgetRx_cfgCause (s : State) : (forgetRx s).cfgCause = s.cfgCause := rfl
@[simp] theorem forgetRx_multiply (s : State) : (forgetRx s).multiply = s.multiply := rfl
@[simp] theorem forgetRx_number (s : State) : (forgetRx s).number = s.number := rfl
@[simp] theorem forgetRx_repeats (s : State) : (forgetRx s).repeats = s.repeats := rfl
@[simp] theorem forgetRx_bands (s : State) : (forgetRx s).bands = s.bands := rfl
@[simp] theorem forgetRx_matchReg (s : State) : (forgetRx s).matchReg = s.matchReg := rfl
@[simp] theorem forgetRx_fbBits (s : State) : (forgetRx s).fbBits = s.fbBits := rfl
@[simp] theorem forgetRx_sum (s : State) : (forgetRx s).sum = s.sum := rfl
@[simp] theorem forgetRx_rxId (s : State) : (forgetRx s).rxId = Config.rejectedRxId s.draws := rfl
@[simp] theorem forgetRx_rxNode (s : State) : (forgetRx s).rxNode = Config.rejectedRxNode s.draws := rfl
@[simp] theorem forgetRx_rxCode (s : State) : (forgetRx s).rxCode = Config.rejectedRxCode s.draws := rfl
@[simp] theorem forgetRx_rxCmd (s : State) :
    (forgetRx s).rxCmd = BitVec.ofNat 3 (Config.rejectedRxCmd s.draws).val := rfl
@[simp] theorem forgetRx_rxValid (s : State) : (forgetRx s).rxValid = false := rfl
@[simp] theorem forgetRx_fpLast (s : State) : (forgetRx s).fpLast = s.fpLast := rfl
@[simp] theorem forgetRx_tLast (s : State) : (forgetRx s).tLast = s.tLast := rfl
@[simp] theorem forgetRx_fpValid (s : State) : (forgetRx s).fpValid = s.fpValid := rfl
@[simp] theorem forgetRx_hash (s : State) : (forgetRx s).hash = s.hash := rfl
@[simp] theorem forgetRx_hashPrev (s : State) : (forgetRx s).hashPrev = s.hashPrev := rfl
@[simp] theorem forgetRx_txfValid (s : State) : (forgetRx s).txfValid = s.txfValid := rfl
@[simp] theorem forgetRx_line (s : State) : (forgetRx s).line = s.line := rfl
@[simp] theorem forgetRx_pulse (s : State) : (forgetRx s).pulse = s.pulse := rfl
@[simp] theorem forgetRx_fb (s : State) : (forgetRx s).fb = s.fb := rfl
@[simp] theorem forgetRx_txf (s : State) : (forgetRx s).txf = s.txf := rfl
@[simp] theorem forgetRx_trace (s : State) : (forgetRx s).trace = s.trace := rfl
@[simp] theorem forgetRx_events (s : State) : (forgetRx s).events = s.events := rfl
@[simp] theorem forgetRx_pending (s : State) : (forgetRx s).pending = s.pending := rfl
@[simp] theorem forgetRx_draws (s : State) : (forgetRx s).draws = s.draws + 1 := rfl
@[simp] theorem forgetRx_epoch (s : State) : (forgetRx s).epoch = s.epoch := rfl

/-! ## emitRecord -/

@[simp] theorem emitRecord_st (r : EventRecord) (s : State) : (emitRecord r s).st = s.st := rfl
@[simp] theorem emitRecord_cfgCause (r : EventRecord) (s : State) : (emitRecord r s).cfgCause = s.cfgCause := rfl
@[simp] theorem emitRecord_multiply (r : EventRecord) (s : State) : (emitRecord r s).multiply = s.multiply := rfl
@[simp] theorem emitRecord_number (r : EventRecord) (s : State) : (emitRecord r s).number = s.number := rfl
@[simp] theorem emitRecord_repeats (r : EventRecord) (s : State) : (emitRecord r s).repeats = s.repeats := rfl
@[simp] theorem emitRecord_bands (r : EventRecord) (s : State) : (emitRecord r s).bands = s.bands := rfl
@[simp] theorem emitRecord_matchReg (r : EventRecord) (s : State) : (emitRecord r s).matchReg = s.matchReg := rfl
@[simp] theorem emitRecord_fbBits (r : EventRecord) (s : State) : (emitRecord r s).fbBits = s.fbBits := rfl
@[simp] theorem emitRecord_sum (r : EventRecord) (s : State) : (emitRecord r s).sum = s.sum := rfl
@[simp] theorem emitRecord_rxId (r : EventRecord) (s : State) : (emitRecord r s).rxId = s.rxId := rfl
@[simp] theorem emitRecord_rxNode (r : EventRecord) (s : State) : (emitRecord r s).rxNode = s.rxNode := rfl
@[simp] theorem emitRecord_rxCode (r : EventRecord) (s : State) : (emitRecord r s).rxCode = s.rxCode := rfl
@[simp] theorem emitRecord_rxCmd (r : EventRecord) (s : State) : (emitRecord r s).rxCmd = s.rxCmd := rfl
@[simp] theorem emitRecord_rxValid (r : EventRecord) (s : State) : (emitRecord r s).rxValid = s.rxValid := rfl
@[simp] theorem emitRecord_fpLast (r : EventRecord) (s : State) : (emitRecord r s).fpLast = s.fpLast := rfl
@[simp] theorem emitRecord_tLast (r : EventRecord) (s : State) : (emitRecord r s).tLast = s.tLast := rfl
@[simp] theorem emitRecord_fpValid (r : EventRecord) (s : State) : (emitRecord r s).fpValid = s.fpValid := rfl
@[simp] theorem emitRecord_hash (r : EventRecord) (s : State) : (emitRecord r s).hash = s.hash := rfl
@[simp] theorem emitRecord_hashPrev (r : EventRecord) (s : State) : (emitRecord r s).hashPrev = s.hashPrev := rfl
@[simp] theorem emitRecord_txfValid (r : EventRecord) (s : State) : (emitRecord r s).txfValid = s.txfValid := rfl
@[simp] theorem emitRecord_line (r : EventRecord) (s : State) : (emitRecord r s).line = s.line := rfl
@[simp] theorem emitRecord_pulse (r : EventRecord) (s : State) : (emitRecord r s).pulse = s.pulse := rfl
@[simp] theorem emitRecord_fb (r : EventRecord) (s : State) : (emitRecord r s).fb = s.fb := rfl
@[simp] theorem emitRecord_txf (r : EventRecord) (s : State) : (emitRecord r s).txf = s.txf := rfl
@[simp] theorem emitRecord_trace (r : EventRecord) (s : State) : (emitRecord r s).trace = s.trace := rfl
@[simp] theorem emitRecord_events (r : EventRecord) (s : State) : (emitRecord r s).events = s.events ++ [r] := rfl
@[simp] theorem emitRecord_pending (r : EventRecord) (s : State) : (emitRecord r s).pending = s.pending := rfl
@[simp] theorem emitRecord_draws (r : EventRecord) (s : State) : (emitRecord r s).draws = s.draws := rfl
@[simp] theorem emitRecord_epoch (r : EventRecord) (s : State) : (emitRecord r s).epoch = s.epoch := rfl

/-! ## buildFrame -/

@[simp] theorem buildFrame_st (id : BitVec 24) (node : BitVec 8) (code : BitVec 16) (s : State) :
    (buildFrame id node code s).st = s.st := rfl
@[simp] theorem buildFrame_cfgCause (id : BitVec 24) (node : BitVec 8) (code : BitVec 16) (s : State) :
    (buildFrame id node code s).cfgCause = s.cfgCause := rfl
@[simp] theorem buildFrame_multiply (id : BitVec 24) (node : BitVec 8) (code : BitVec 16) (s : State) :
    (buildFrame id node code s).multiply = s.multiply := rfl
@[simp] theorem buildFrame_number (id : BitVec 24) (node : BitVec 8) (code : BitVec 16) (s : State) :
    (buildFrame id node code s).number = s.number := rfl
@[simp] theorem buildFrame_repeats (id : BitVec 24) (node : BitVec 8) (code : BitVec 16) (s : State) :
    (buildFrame id node code s).repeats = s.repeats := rfl
@[simp] theorem buildFrame_bands (id : BitVec 24) (node : BitVec 8) (code : BitVec 16) (s : State) :
    (buildFrame id node code s).bands = s.bands := rfl
@[simp] theorem buildFrame_matchReg (id : BitVec 24) (node : BitVec 8) (code : BitVec 16) (s : State) :
    (buildFrame id node code s).matchReg = s.matchReg := rfl
@[simp] theorem buildFrame_fbBits (id : BitVec 24) (node : BitVec 8) (code : BitVec 16) (s : State) :
    (buildFrame id node code s).fbBits = s.fbBits := rfl
@[simp] theorem buildFrame_sum (id : BitVec 24) (node : BitVec 8) (code : BitVec 16) (s : State) :
    (buildFrame id node code s).sum = s.sum := rfl
@[simp] theorem buildFrame_rxId (id : BitVec 24) (node : BitVec 8) (code : BitVec 16) (s : State) :
    (buildFrame id node code s).rxId = s.rxId := rfl
@[simp] theorem buildFrame_rxNode (id : BitVec 24) (node : BitVec 8) (code : BitVec 16) (s : State) :
    (buildFrame id node code s).rxNode = s.rxNode := rfl
@[simp] theorem buildFrame_rxCode (id : BitVec 24) (node : BitVec 8) (code : BitVec 16) (s : State) :
    (buildFrame id node code s).rxCode = s.rxCode := rfl
@[simp] theorem buildFrame_rxCmd (id : BitVec 24) (node : BitVec 8) (code : BitVec 16) (s : State) :
    (buildFrame id node code s).rxCmd = s.rxCmd := rfl
@[simp] theorem buildFrame_rxValid (id : BitVec 24) (node : BitVec 8) (code : BitVec 16) (s : State) :
    (buildFrame id node code s).rxValid = s.rxValid := rfl
@[simp] theorem buildFrame_fpLast (id : BitVec 24) (node : BitVec 8) (code : BitVec 16) (s : State) :
    (buildFrame id node code s).fpLast = s.fpLast := rfl
@[simp] theorem buildFrame_tLast (id : BitVec 24) (node : BitVec 8) (code : BitVec 16) (s : State) :
    (buildFrame id node code s).tLast = s.tLast := rfl
@[simp] theorem buildFrame_fpValid (id : BitVec 24) (node : BitVec 8) (code : BitVec 16) (s : State) :
    (buildFrame id node code s).fpValid = s.fpValid := rfl
@[simp] theorem buildFrame_hash (id : BitVec 24) (node : BitVec 8) (code : BitVec 16) (s : State) :
    (buildFrame id node code s).hash = s.hash := rfl
@[simp] theorem buildFrame_hashPrev (id : BitVec 24) (node : BitVec 8) (code : BitVec 16) (s : State) :
    (buildFrame id node code s).hashPrev = s.hashPrev := rfl
@[simp] theorem buildFrame_txfValid (id : BitVec 24) (node : BitVec 8) (code : BitVec 16) (s : State) :
    (buildFrame id node code s).txfValid = true := rfl
@[simp] theorem buildFrame_line (id : BitVec 24) (node : BitVec 8) (code : BitVec 16) (s : State) :
    (buildFrame id node code s).line = s.line := rfl
@[simp] theorem buildFrame_pulse (id : BitVec 24) (node : BitVec 8) (code : BitVec 16) (s : State) :
    (buildFrame id node code s).pulse = s.pulse := rfl
@[simp] theorem buildFrame_fb (id : BitVec 24) (node : BitVec 8) (code : BitVec 16) (s : State) :
    (buildFrame id node code s).fb = s.fb := rfl
@[simp] theorem buildFrame_txf (id : BitVec 24) (node : BitVec 8) (code : BitVec 16) (s : State) :
    (buildFrame id node code s).txf = Memory.ofList (frameBytes id node code) := rfl
@[simp] theorem buildFrame_trace (id : BitVec 24) (node : BitVec 8) (code : BitVec 16) (s : State) :
    (buildFrame id node code s).trace = s.trace := rfl
@[simp] theorem buildFrame_events (id : BitVec 24) (node : BitVec 8) (code : BitVec 16) (s : State) :
    (buildFrame id node code s).events = s.events := rfl
@[simp] theorem buildFrame_pending (id : BitVec 24) (node : BitVec 8) (code : BitVec 16) (s : State) :
    (buildFrame id node code s).pending = s.pending := rfl
@[simp] theorem buildFrame_draws (id : BitVec 24) (node : BitVec 8) (code : BitVec 16) (s : State) :
    (buildFrame id node code s).draws = s.draws := rfl
@[simp] theorem buildFrame_epoch (id : BitVec 24) (node : BitVec 8) (code : BitVec 16) (s : State) :
    (buildFrame id node code s).epoch = s.epoch := rfl

/-! ## ST's fields -/

@[simp] theorem setAnswer_ok (ok dup : Bool) (r : Reason) (s : State) : (setAnswer ok dup r s).ok = ok := by
  simp [State.ok]
@[simp] theorem setAnswer_dup (ok dup : Bool) (r : Reason) (s : State) : (setAnswer ok dup r s).dup = dup := by
  simp [State.dup]
@[simp] theorem setAnswer_reason (ok dup : Bool) (r : Reason) (s : State) :
    (setAnswer ok dup r s).reason = r.code := by
  simp [State.reason]
@[simp] theorem setAnswer_cfgErr (ok dup : Bool) (r : Reason) (s : State) :
    (setAnswer ok dup r s).cfgErr = s.cfgErr := by
  simp [State.cfgErr]
@[simp] theorem markConfigFault_ok (c : Cause) (s : State) : (markConfigFault c s).ok = s.ok := by
  simp [State.ok]
@[simp] theorem markConfigFault_dup (c : Cause) (s : State) : (markConfigFault c s).dup = s.dup := by
  simp [State.dup]
@[simp] theorem markConfigFault_reason (c : Cause) (s : State) : (markConfigFault c s).reason = s.reason := by
  simp [State.reason]
@[simp] theorem markConfigFault_cfgErr (c : Cause) (s : State) : (markConfigFault c s).cfgErr = true := by
  simp [State.cfgErr]

/-! ## Band registers -/

@[simp] theorem band_setBand_same (i : Fin 4) (x : Band) (s : State) : band (setBand i x s) i = x := by
  simp [band, setBand, Vector.get_eq_getElem]

theorem band_setBand_other {i j : Fin 4} (h : i ≠ j) (x : Band) (s : State) : band (setBand i x s) j = band s j := by
  have h' : i.val ≠ j.val := fun e => h (Fin.ext e)
  simp [band, setBand, Vector.get_eq_getElem, Vector.getElem_set_ne, h']

end Sys2Proof.Machine
end

