-- ==== Sys2Proof/Laws/Ops.lean ====
section
/-! SUPPORT. Laws/Ops.lean: what each shared operation can do, said once. -/

namespace Sys2Proof.Machine

/-! ## Ends of an operation -/

theorem done_eq (s : State) : done s = .next (setAnswer true false .none s) := rfl
theorem doneDup_eq (s : State) : doneDup s = .next (setAnswer true true .none s) := rfl
theorem reject_eq (r : Reason) (s : State) : reject r s = .next (setAnswer false false r s) := rfl
theorem raise_eq (c : Cause) (s : State) : raise c s = .next (markConfigFault c s) := rfl

@[simp] theorem andThen_next {α : Type} (s : State) (f : State → Host.Outcome α Fault Refusal) :
    andThen (.next s) f = f s := rfl

/-! ## Buffer reads -/

theorem fbAt_fbWrite_same (j : Nat) (v : Byte) (s : State) : fbAt (fbWrite j v s) j = v := by
  simp [fbAt]

theorem fbAt_fbWrite_other {j k : Nat} (h : k ≠ j) (v : Byte) (s : State) : fbAt (fbWrite j v s) k = fbAt s k := by
  simp [fbAt, Memory.read?_write_other _ _ h]

theorem fbAt_clearFb {j : Nat} (h : j < Config.frameMax) (s : State) : fbAt (clearFb s) j = 0x00 := by
  simp [fbAt, h]

theorem fbAt_forgetFb {j : Nat} (h : j < Config.frameMax) (s : State) :
    fbAt (forgetFb s) j = Config.rejectedFb s.draws j := by
  simp [fbAt, h]

/-- TXF after a build: the nine bytes of the frame. -/
theorem txfAt_buildFrame (id : BitVec 24) (node : BitVec 8) (code : BitVec 16) (s : State) {j : Nat}
    (h : j < (frameBytes id node code).length) :
    txfAt (buildFrame id node code s) j = (frameBytes id node code)[j] := by
  simp [txfAt, List.getElem?_eq_getElem h]

/-- A byte of FB changed by `orBit`, and every other byte unchanged. -/
theorem fbAt_orBit (k j : Nat) (bit : Bool) (s : State) :
    fbAt (orBit k bit s) j =
      if j = k / 8 then fbAt s j ||| ((BitVec.ofBool bit).setWidth 8 <<< (7 - k % 8)) else fbAt s j := by
  unfold orBit
  split
  · subst_vars
    exact fbAt_fbWrite_same _ _ _
  · rename_i h
    exact fbAt_fbWrite_other h _ _

/-- `orBit` sets bit `k` of the bit sequence and leaves every other bit alone. -/
theorem fbBit_orBit (k j : Nat) (bit : Bool) (s : State) :
    fbBit (orBit k bit s) j = if j = k then (fbBit s j || bit) else fbBit s j := by
  unfold fbBit
  rw [fbAt_orBit]
  by_cases hb : j / 8 = k / 8
  · rw [if_pos hb]
    have hj : 7 - j % 8 < 8 := by omega
    by_cases hjk : j = k
    · subst hjk
      simp [hj]
    · have hne : j % 8 ≠ k % 8 := by omega
      rw [if_neg hjk]
      rcases Nat.lt_or_gt_of_ne hne with h | h
      · have : 7 - j % 8 - (7 - k % 8) ≠ 0 := by omega
        cases bit <;> simp [hj, this]
      · have : 7 - j % 8 < 7 - k % 8 := by omega
        cases bit <;> simp [hj, this]
  · have hjk : j ≠ k := fun e => hb (by rw [e])
    rw [if_neg hb, if_neg hjk]

/-- After the clear of a DECODE every bit of FB is 0. -/
theorem fbBit_clearFb {k : Nat} (h : k < 8 * Config.frameMax) (s : State) : fbBit (clearFb s) k = false := by
  have : k / 8 < Config.frameMax := by omega
  simp [fbBit, fbAt_clearFb this]

/-! ## Band limits -/

/-- The lower limit of 40_classifier.md R113 as a natural number. -/
theorem bandMin_toNat (multiply nominal tol : BitVec 16) :
    (bandMin multiply nominal tol).toNat = (nominal.toNat - tol.toNat) / multiply.toNat := by
  have h := nominal.isLt
  have h' : (nominal.toNat - tol.toNat) / multiply.toNat ≤ nominal.toNat - tol.toNat := Nat.div_le_self _ _
  rw [bandMin, BitVec.toNat_ofNat, Nat.mod_eq_of_lt (by omega)]

/-- The upper limit, where R113's check has passed. -/
theorem bandMax_toNat (multiply nominal tol : BitVec 16) (h : nominal.toNat + tol.toNat ≤ 65535) :
    (bandMax multiply nominal tol).toNat = (nominal.toNat + tol.toNat) / multiply.toNat := by
  have h' : (nominal.toNat + tol.toNat) / multiply.toNat ≤ nominal.toNat + tol.toNat := Nat.div_le_self _ _
  rw [bandMax, BitVec.toNat_ofNat, Nat.mod_eq_of_lt (by omega)]

/-! ## The loop of DECODE -/

/-- The bit of a sample, with LONG_IS_ONE put in. -/
theorem pulseBit_eq (b : PwmBands) (d : Sample) :
    pulseBit b d =
      if inBand d b.smin b.smax then some false else if inBand d b.lmin b.lmax then some true else none := rfl

/-- One examined pulse, with STRIDE put in. -/
theorem examineBit_eq (b : PwmBands) (count start : BitVec 16) (s : State) (k : Nat) :
    examineBit b count start s k =
      if count.toNat ≤ start.toNat + 2 * k then .error .exhausted
      else
        match pulseBit b (pulseAt s (start.toNat + 2 * k)) with
        | some bit => .ok bit
        | none => .error .timing := rfl

/-- The loop writes FB and nothing else. -/
theorem decodeBits_frame {b : PwmBands} {count start : BitVec 16} {n k : Nat} {s t : State}
    (h : decodeBits b count start n k s = .ok t) : t = { s with fb := t.fb } := by
  induction n generalizing k s with
  | zero =>
    simp only [decodeBits, Except.ok.injEq] at h
    subst h
    rfl
  | succ n ih =>
    simp only [decodeBits] at h
    split at h
    · cases h
    · have := ih h
      rw [this]
      rfl

/-- What the loop examines does not depend on FB. -/
theorem examineBit_fb (b : PwmBands) (count start : BitVec 16) (s : State) (m : Memory 8) (k : Nat) :
    examineBit b count start { s with fb := m } k = examineBit b count start s k := rfl

theorem examineBit_orBit (b : PwmBands) (count start : BitVec 16) (s : State) (j k : Nat) (bit : Bool) :
    examineBit b count start (orBit j bit s) k = examineBit b count start s k := rfl

theorem examineBit_clearFb (b : PwmBands) (count start : BitVec 16) (s : State) (k : Nat) :
    examineBit b count start (clearFb s) k = examineBit b count start s k := rfl

/-- The loop keeps FB in its canonical form while it stays inside FB. -/
theorem decodeBits_wf {b : PwmBands} {count start : BitVec 16} {n k : Nat} {s t : State}
    (h : decodeBits b count start n k s = .ok t) (hs : Memory.wf Config.frameMax s.fb)
    (hk : n + k ≤ 8 * Config.frameMax) : Memory.wf Config.frameMax t.fb := by
  induction n generalizing k s with
  | zero =>
    simp only [decodeBits, Except.ok.injEq] at h
    subst h
    exact hs
  | succ n ih =>
    simp only [decodeBits] at h
    split at h
    · cases h
    · refine ih h (Memory.write_wf hs ?_ _) (by omega)
      omega

/-- The first bit the loop cannot decide ends it. -/
theorem decodeBits_error {b : PwmBands} {count start : BitVec 16} {n k : Nat} {s : State} {r : Reason}
    (h : decodeBits b count start n k s = .error r) :
    ∃ j, j < n ∧ examineBit b count start s (k + j) = .error r ∧
      ∀ i < j, ∃ bit, examineBit b count start s (k + i) = .ok bit := by
  induction n generalizing k s with
  | zero => simp [decodeBits] at h
  | succ n ih =>
    simp only [decodeBits] at h
    split at h
    · rename_i r' hr
      cases h
      exact ⟨0, by omega, hr, fun i hi => absurd hi (by omega)⟩
    · rename_i bit hb
      obtain ⟨j, hj, hr, hall⟩ := ih h
      refine ⟨j + 1, by omega, ?_, fun i hi => ?_⟩
      · rw [examineBit_orBit] at hr
        rw [← hr]
        congr 1
        omega
      · cases i with
        | zero => exact ⟨bit, hb⟩
        | succ i =>
          obtain ⟨c, hc⟩ := hall i (by omega)
          rw [examineBit_orBit] at hc
          refine ⟨c, ?_⟩
          rw [← hc]
          congr 1
          omega

/-- The loop that decides every bit ends with those bits set. -/
theorem decodeBits_ok {b : PwmBands} {count start : BitVec 16} {n k : Nat} {s : State} {bits : Nat → Bool}
    (h : ∀ j < n, examineBit b count start s (k + j) = .ok (bits (k + j))) :
    ∃ t, decodeBits b count start n k s = .ok t ∧
      ∀ j, fbBit t j = if k ≤ j ∧ j < k + n then (fbBit s j || bits j) else fbBit s j := by
  induction n generalizing k s with
  | zero =>
    refine ⟨s, rfl, fun j => ?_⟩
    have : ¬ (k ≤ j ∧ j < k + 0) := by omega
    rw [if_neg this]
  | succ n ih =>
    have h0 := h 0 (by omega)
    obtain ⟨t, ht, hbits⟩ := ih (k := k + 1) (s := orBit k (bits k) s) (fun j hj => by
      rw [examineBit_orBit]
      have := h (j + 1) (by omega)
      rw [show k + 1 + j = k + (j + 1) by omega]
      exact this)
    refine ⟨t, ?_, fun j => ?_⟩
    · simp only [decodeBits, Nat.add_zero] at h0 ⊢
      rw [h0]
      exact ht
    · rw [hbits j, fbBit_orBit]
      by_cases hjk : j = k
      · subst hjk
        have h1 : ¬ (j + 1 ≤ j ∧ j < j + 1 + n) := by omega
        have h2 : j ≤ j ∧ j < j + (n + 1) := by omega
        rw [if_neg h1, if_pos rfl, if_pos h2]
      · rw [if_neg hjk]
        by_cases h3 : k + 1 ≤ j ∧ j < k + 1 + n
        · rw [if_pos h3, if_pos (by omega)]
        · rw [if_neg h3, if_neg (by omega)]

/-! ## The output line -/

/-- A segment reaches TRACE exactly when it has a length, and only TRACE and LINE change. -/
theorem seg_eq (x : Segment) (s : State) :
    seg x s = { s with
      trace := s.trace ++ [x].filter (fun y => decide (0 < y.us))
      line := if 0 < x.us then x.high else s.line } := by
  unfold seg
  split
  · rename_i h
    simp [h]
  · rename_i h
    simp [h]

/-- The level after segments are driven. -/
theorem drive_eq (xs : List Segment) (s : State) :
    drive xs s = { s with
      trace := s.trace ++ xs.filter (fun y => decide (0 < y.us))
      line := xs.foldl (fun l y => if 0 < y.us then y.high else l) s.line } := by
  induction xs generalizing s with
  | nil => simp [drive]
  | cons x xs ih =>
    have : drive (x :: xs) s = drive xs (seg x s) := rfl
    rw [this, ih, seg_eq]
    by_cases h : 0 < x.us <;> simp [h]

theorem drive_append (xs ys : List Segment) (s : State) : drive (xs ++ ys) s = drive ys (drive xs s) := by
  simp [drive, List.foldl_append]

/-- The segments a frame leaves in TRACE. -/
theorem emitFrame_trace (t : Config.TxTiming) (primed : Bool) (s : State) :
    (emitFrame t primed s).trace =
      s.trace ++ (frameSegments t primed (txfBit s)).filter (fun y => decide (0 < y.us)) := by
  rw [emitFrame, drive_eq]

/-- A frame changes TRACE and LINE and nothing else. -/
theorem emitFrame_frame (t : Config.TxTiming) (primed : Bool) (s : State) :
    emitFrame t primed s = { s with trace := (emitFrame t primed s).trace, line := (emitFrame t primed s).line } := by
  rw [emitFrame, drive_eq]

theorem emitBare_frame (t : Config.TxTiming) (n : Nat) (s : State) :
    emitBare t n s = { s with trace := (emitBare t n s).trace, line := (emitBare t n s).line } := by
  induction n generalizing s with
  | zero => rfl
  | succ n ih =>
    simp only [emitBare]
    rw [ih (emitFrame t false s), emitFrame_frame]

@[simp] theorem emitFrame_txf (t : Config.TxTiming) (primed : Bool) (s : State) : (emitFrame t primed s).txf = s.txf := by
  rw [emitFrame_frame]

@[simp] theorem emitFrame_epoch (t : Config.TxTiming) (primed : Bool) (s : State) :
    (emitFrame t primed s).epoch = s.epoch := by
  rw [emitFrame_frame]

/-- A frame leaves the bits of TXF as they are. -/
theorem txfBit_emitFrame (t : Config.TxTiming) (primed : Bool) (s : State) : txfBit (emitFrame t primed s) = txfBit s := by
  funext k
  simp [txfBit, txfAt]

/-- What `n` bare repeats leave in TRACE: the frame in TXF, `n` times. -/
theorem emitBare_trace (t : Config.TxTiming) (n : Nat) (s : State) :
    (emitBare t n s).trace =
      s.trace ++ (List.replicate n
        ((frameSegments t false (txfBit s)).filter (fun y => decide (0 < y.us)))).flatten := by
  induction n generalizing s with
  | zero => simp [emitBare]
  | succ n ih =>
    simp only [emitBare]
    rw [ih, txfBit_emitFrame, emitFrame_trace]
    simp [List.replicate_succ]

/-- What a frame and its repeats leave in TRACE. -/
theorem emitSequence_trace (t : Config.TxTiming) (primed : Bool) (n : Nat) (s : State) :
    (emitSequence t primed n s).trace =
      s.trace ++ (frameSegments t primed (txfBit s)).filter (fun y => decide (0 < y.us)) ++
        (List.replicate n
          ((frameSegments t false (txfBit s)).filter (fun y => decide (0 < y.us)))).flatten := by
  rw [emitSequence, emitBare_trace, txfBit_emitFrame, emitFrame_trace]

/-- A sequence changes TRACE and LINE and nothing else. -/
theorem emitSequence_frame (t : Config.TxTiming) (primed : Bool) (n : Nat) (s : State) :
    emitSequence t primed n s =
      { s with trace := (emitSequence t primed n s).trace, line := (emitSequence t primed n s).line } := by
  rw [emitSequence, emitBare_frame, emitFrame_frame]

/-- A release sequence changes TRACE, LINE, TXF and TXF_VALID and nothing else. -/
theorem emitRelease_frame (t : Config.TxTiming) (codes : Config.CmdCodes) (id : BitVec 24) (node : BitVec 8) (s : State) :
    emitRelease t codes id node s =
      { s with
        txf := Memory.ofList (frameBytes id node codes.release)
        txfValid := true
        trace := (emitRelease t codes id node s).trace
        line := (emitRelease t codes id node s).line } := by
  rw [emitRelease, emitSequence_frame, seg_eq]
  rfl

/-- A pulse pair ends low when its low segment has a length. -/
theorem bitPair_level (t : Config.TxTiming) (hs : 0 < t.tShort) (hl : 0 < t.tLong) (bit l : Bool) :
    (bitPair t bit).foldl (fun l y => if 0 < y.us then y.high else l) l = false := by
  unfold bitPair
  split <;> simp [hs, hl]

/-- After a frame the line is low (44_tx_encoder.md R211). -/
theorem emitFrame_line (primed : Bool) (s : State) : (emitFrame Config.txTiming primed s).line = false := by
  have hs : 0 < Config.txTiming.tShort := Nat.succ_pos _
  have hl : 0 < Config.txTiming.tLong := Nat.succ_pos _
  have key : ∀ (n : Nat) (bits : Nat → Bool) (l : Bool),
      ((List.range (n + 1)).flatMap (fun k => bitPair Config.txTiming (bits k))).foldl
        (fun l y => if 0 < y.us then y.high else l) l = false := fun n bits l => by
    rw [List.range_succ, List.flatMap_append, List.foldl_append]
    simpa using bitPair_level Config.txTiming hs hl (bits n) _
  rw [emitFrame, drive_eq, frameSegments, List.foldl_append, List.foldl_append]
  have h65 : Config.txDataBits = 64 + 1 := rfl
  rw [h65]
  simp [key]

theorem emitBare_line (n : Nat) (s : State) (h : s.line = false) : (emitBare Config.txTiming n s).line = false := by
  induction n generalizing s with
  | zero => exact h
  | succ n ih => exact ih _ (emitFrame_line false s)

theorem emitSequence_line (primed : Bool) (n : Nat) (s : State) :
    (emitSequence Config.txTiming primed n s).line = false :=
  emitBare_line n _ (emitFrame_line primed s)

/-! ## The meanings, case by case: what each can answer -/

theorem execBand_cases (b : Fin 4) (nominal tol : BitVec 16) (s : State) :
    (s.multiply = 0 ∧ execBand b nominal tol s = raise .multZero s) ∨
    (s.multiply ≠ 0 ∧ (nominal.toNat < tol.toNat ∨ 65535 < nominal.toNat + tol.toNat) ∧
      execBand b nominal tol s = raise .bandArith s) ∨
    (s.multiply ≠ 0 ∧ tol.toNat ≤ nominal.toNat ∧ nominal.toNat + tol.toNat ≤ 65535 ∧
      execBand b nominal tol s =
        done (setBand b ⟨true, bandMin s.multiply nominal tol, bandMax s.multiply nominal tol⟩ s)) := by
  unfold execBand
  split
  · exact .inl ⟨‹_›, rfl⟩
  · split
    · exact .inr (.inl ⟨‹_›, .inl ‹_›, rfl⟩)
    · split
      · exact .inr (.inl ⟨‹_›, .inr ‹_›, rfl⟩)
      · exact .inr (.inr ⟨‹_›, by omega, by omega, rfl⟩)

theorem classifySample_cases (d : Sample) (s : State) :
    (bandsOverlap s = true ∧ classifySample d s = raise .bandOverlap s) ∨
    (bandsOverlap s = false ∧ ∃ i, matchingBand d s = some i ∧
      classifySample d s = done { s with matchReg := BitVec.ofNat 3 i.val }) ∨
    (bandsOverlap s = false ∧ matchingBand d s = none ∧
      classifySample d s = reject .timing { s with matchReg := 4 }) := by
  unfold classifySample
  split
  · exact .inl ⟨‹_›, rfl⟩
  · split
    · exact .inr (.inl ⟨Bool.eq_false_iff.mpr ‹_›, _, ‹_›, rfl⟩)
    · exact .inr (.inr ⟨Bool.eq_false_iff.mpr ‹_›, ‹_›, rfl⟩)

theorem execClassifyp_cases (i : BitVec 16) (s : State) :
    (s.number.toNat ≤ i.toNat ∧ execClassifyp i s = raise .bufferState s) ∨
    (i.toNat < s.number.toNat ∧ execClassifyp i s = classifySample (pulseAt s i.toNat) s) := by
  unfold execClassifyp
  split
  · exact .inl ⟨‹_›, rfl⟩
  · exact .inr ⟨by omega, rfl⟩

theorem execDecode_cases (nbits : BitVec 8) (count start smin smax lmin lmax : BitVec 16) (s : State) :
    (∃ c, execDecode nbits count start smin smax lmin lmax s = raise c s) ∨
    (nbits.toNat ≤ 8 * Config.frameMax ∧ count.toNat ≤ s.number.toNat ∧ ∃ t,
      decodeBits ⟨smin, smax, lmin, lmax⟩ count start nbits.toNat 0 (clearFb s) = .ok t ∧
      execDecode nbits count start smin smax lmin lmax s = done { t with fbBits := nbits }) ∨
    (nbits.toNat ≤ 8 * Config.frameMax ∧ count.toNat ≤ s.number.toNat ∧ ∃ r,
      decodeBits ⟨smin, smax, lmin, lmax⟩ count start nbits.toNat 0 (clearFb s) = .error r ∧
      execDecode nbits count start smin smax lmin lmax s = reject r (forgetFb s)) := by
  unfold execDecode
  split
  · exact .inl ⟨_, rfl⟩
  · split
    · exact .inl ⟨_, rfl⟩
    · split
      · exact .inl ⟨_, rfl⟩
      · split
        · exact .inr (.inl ⟨by omega, by omega, _, ‹_›, rfl⟩)
        · exact .inr (.inr ⟨by omega, by omega, _, ‹_›, rfl⟩)

theorem execGate_cases (lo hi : BitVec 16) (s : State) :
    (inGate s.number lo hi = true ∧ execGate lo hi s = done s) ∨
    (inGate s.number lo hi = false ∧ execGate lo hi s = reject .count s) := by
  unfold execGate
  split
  · exact .inl ⟨‹_›, rfl⟩
  · exact .inr ⟨Bool.eq_false_iff.mpr ‹_›, rfl⟩

theorem execChksum_cases (lo hi : BitVec 8) (s : State) :
    (∃ c, execChksum lo hi s = raise c s) ∨
    (lo.toNat ≤ hi.toNat ∧ 8 * hi.toNat < s.fbBits.toNat ∧
      execChksum lo hi s = done { s with sum := byteSum (fbRange s lo.toNat hi.toNat) }) := by
  unfold execChksum
  split
  · exact .inl ⟨_, rfl⟩
  · split
    · exact .inl ⟨_, rfl⟩
    · exact .inr ⟨by omega, by omega, rfl⟩

theorem execRxchk_cases (s : State) :
    (s.fbBits.toNat < 64 ∧ execRxchk s = raise .bufferState s) ∨
    (64 ≤ s.fbBits.toNat ∧ fbAt s 0 ≠ Config.txHeader ∧
      execRxchk s = reject .header (forgetRx { s with sum := frameSum s })) ∨
    (64 ≤ s.fbBits.toNat ∧ fbAt s 0 = Config.txHeader ∧ frameSum s ≠ fbAt s 7 ∧
      execRxchk s = reject .checksum (forgetRx { s with sum := frameSum s })) ∨
    (64 ≤ s.fbBits.toNat ∧ fbAt s 0 = Config.txHeader ∧ frameSum s = fbAt s 7 ∧
      execRxchk s = done { s with
        sum := frameSum s
        rxId := frameId s
        rxNode := fbAt s 4
        rxCode := frameCode s
        rxCmd := (cmdMap (frameCode s)).code
        rxValid := true }) := by
  unfold execRxchk
  split
  · exact .inl ⟨‹_›, rfl⟩
  · split
    · exact .inr (.inl ⟨by omega, ‹_›, rfl⟩)
    · split
      · exact .inr (.inr (.inl ⟨by omega, by simpa using ‹¬ fbAt s 0 ≠ _›, ‹_›, rfl⟩))
      · exact .inr (.inr (.inr ⟨by omega, by simpa using ‹¬ fbAt s 0 ≠ _›, by simpa using ‹¬ frameSum s ≠ _›, rfl⟩))

theorem execEmit_cases (proto : BitVec 8) (s : State) :
    (s.rxValid = false ∧ execEmit proto s = raise .bufferState s) ∨
    (s.rxValid = true ∧ s.rxCmd = Command.release.code ∧ execEmit proto s = done s) ∨
    (s.rxValid = true ∧ s.rxCmd ≠ Command.release.code ∧
      execEmit proto s = done (emitRecord ⟨proto, s.rxId, s.rxNode, s.rxCmd⟩ s)) := by
  unfold execEmit
  split
  · split
    · exact .inr (.inl ⟨‹_›, ‹_›, rfl⟩)
    · exact .inr (.inr ⟨‹_›, ‹_›, rfl⟩)
  · exact .inl ⟨Bool.eq_false_iff.mpr ‹_›, rfl⟩

theorem execDedup_cases (fp now : BitVec 32) (window : BitVec 16) (s : State) :
    (isDuplicate Config.hashGatesDup fp now window s = true ∧ execDedup fp now window s = doneDup s) ∨
    (isDuplicate Config.hashGatesDup fp now window s = false ∧
      execDedup fp now window s = done { s with fpLast := fp, tLast := now, fpValid := true }) := by
  unfold execDedup dedupWith
  split
  · exact .inl ⟨‹_›, rfl⟩
  · exact .inr ⟨Bool.eq_false_iff.mpr ‹_›, rfl⟩

theorem execTxframe_cases (primed : Bool) (s : State) :
    (s.txfValid = false ∧ execTxframe primed s = raise .bufferState s) ∨
    (s.txfValid = true ∧ execTxframe primed s = done (emitFrame Config.txTiming primed s)) := by
  unfold execTxframe
  split
  · exact .inr ⟨‹_›, rfl⟩
  · exact .inl ⟨Bool.eq_false_iff.mpr ‹_›, rfl⟩

theorem execTxsend_cases (id : BitVec 24) (node : BitVec 8) (token : BitVec 3) (s : State) :
    (txCodeWith Config.cmdCodes token = none ∧ execTxsend id node token s = reject .token s) ∨
    (∃ code, txCodeWith Config.cmdCodes token = some code ∧ token = Command.stop.code ∧
      execTxsend id node token s =
        done (emitSequence Config.txTiming true Config.nRepeats (buildFrame id node code s))) ∨
    (∃ code, txCodeWith Config.cmdCodes token = some code ∧ token ≠ Command.stop.code ∧
      execTxsend id node token s =
        done (emitRelease Config.txTiming Config.cmdCodes id node
          (emitSequence Config.txTiming true Config.nRepeats (buildFrame id node code s)))) := by
  unfold execTxsend txsendWith
  split
  · exact .inl ⟨‹_›, rfl⟩
  · split
    · exact .inr (.inl ⟨_, ‹_›, ‹_›, rfl⟩)
    · exact .inr (.inr ⟨_, ‹_›, ‹_›, rfl⟩)

end Sys2Proof.Machine
end

