-- ==== Sys2Proof/Laws/Exec.lean ====
section
/-! SUPPORT. Laws/Exec.lean: everything an operation can answer, said once. -/

namespace Sys2Proof.Machine

/-- `Answers i s t`: the operation `i` can take `s` to `t`. One constructor per ending of an operation. -/
inductive Answers : Instr → State → State → Prop
  | configFault (i : Instr) (c : Cause) (s : State) : Answers i s (markConfigFault c s)
  | band (b : Fin 4) (nominal tol : BitVec 16) (s : State) (hm : s.multiply ≠ 0) (h1 : tol.toNat ≤ nominal.toNat)
      (h2 : nominal.toNat + tol.toNat ≤ 65535) :
      Answers (.band b nominal tol) s
        (setAnswer true false .none (setBand b ⟨true, bandMin s.multiply nominal tol, bandMax s.multiply nominal tol⟩ s))
  | bandclr (b : Fin 4) (s : State) :
      Answers (.bandclr b) s (setAnswer true false .none (setBand b { Machine.band s b with v := false } s))
  | classifyHit (d : Sample) (s : State) (i : Fin 4) (ho : bandsOverlap s = false) (h : matchingBand d s = some i) :
      Answers (.classify d) s (setAnswer true false .none { s with matchReg := BitVec.ofNat 3 i.val })
  | classifyMiss (d : Sample) (s : State) (ho : bandsOverlap s = false) (h : matchingBand d s = none) :
      Answers (.classify d) s (setAnswer false false .timing { s with matchReg := 4 })
  | classifypHit (j : BitVec 16) (s : State) (i : Fin 4) (hj : j.toNat < s.number.toNat) (ho : bandsOverlap s = false)
      (h : matchingBand (pulseAt s j.toNat) s = some i) :
      Answers (.classifyp j) s (setAnswer true false .none { s with matchReg := BitVec.ofNat 3 i.val })
  | classifypMiss (j : BitVec 16) (s : State) (hj : j.toNat < s.number.toNat) (ho : bandsOverlap s = false)
      (h : matchingBand (pulseAt s j.toNat) s = none) :
      Answers (.classifyp j) s (setAnswer false false .timing { s with matchReg := 4 })
  | decodeOk (nbits : BitVec 8) (count start smin smax lmin lmax : BitVec 16) (s t : State)
      (hn : nbits.toNat ≤ 8 * Config.frameMax) (hc : count.toNat ≤ s.number.toNat)
      (h : decodeBits ⟨smin, smax, lmin, lmax⟩ count start nbits.toNat 0 (clearFb s) = .ok t) :
      Answers (.decode nbits count start smin smax lmin lmax) s (setAnswer true false .none { t with fbBits := nbits })
  | decodeBad (nbits : BitVec 8) (count start smin smax lmin lmax : BitVec 16) (s : State) (r : Reason)
      (hn : nbits.toNat ≤ 8 * Config.frameMax) (hc : count.toNat ≤ s.number.toNat)
      (h : decodeBits ⟨smin, smax, lmin, lmax⟩ count start nbits.toNat 0 (clearFb s) = .error r) :
      Answers (.decode nbits count start smin smax lmin lmax) s (setAnswer false false r (forgetFb s))
  | gateIn (lo hi : BitVec 16) (s : State) (h : inGate s.number lo hi = true) :
      Answers (.gate lo hi) s (setAnswer true false .none s)
  | gateOut (lo hi : BitVec 16) (s : State) (h : inGate s.number lo hi = false) :
      Answers (.gate lo hi) s (setAnswer false false .count s)
  | chksum (lo hi : BitVec 8) (s : State) (h1 : lo.toNat ≤ hi.toNat) (h2 : 8 * hi.toNat < s.fbBits.toNat) :
      Answers (.chksum lo hi) s
        (setAnswer true false .none { s with sum := byteSum (fbRange s lo.toNat hi.toNat) })
  | rxchkHeader (s : State) (hb : 64 ≤ s.fbBits.toNat) (h : fbAt s 0 ≠ Config.txHeader) :
      Answers .rxchk s (setAnswer false false .header (forgetRx { s with sum := frameSum s }))
  | rxchkChecksum (s : State) (hb : 64 ≤ s.fbBits.toNat) (h0 : fbAt s 0 = Config.txHeader) (h : frameSum s ≠ fbAt s 7) :
      Answers .rxchk s (setAnswer false false .checksum (forgetRx { s with sum := frameSum s }))
  | rxchkOk (s : State) (hb : 64 ≤ s.fbBits.toNat) (h0 : fbAt s 0 = Config.txHeader) (h : frameSum s = fbAt s 7) :
      Answers .rxchk s (setAnswer true false .none { s with
        sum := frameSum s
        rxId := frameId s
        rxNode := fbAt s 4
        rxCode := frameCode s
        rxCmd := (cmdMap (frameCode s)).code
        rxValid := true })
  | emitRelease (proto : BitVec 8) (s : State) (hv : s.rxValid = true) (h : s.rxCmd = Command.release.code) :
      Answers (.emit proto) s (setAnswer true false .none s)
  | emitRecord (proto : BitVec 8) (s : State) (hv : s.rxValid = true) (h : s.rxCmd ≠ Command.release.code) :
      Answers (.emit proto) s
        (setAnswer true false .none (Machine.emitRecord ⟨proto, s.rxId, s.rxNode, s.rxCmd⟩ s))
  | consume (z : Bool) (s : State) :
      Answers (.consume z) s
        (setAnswer true false .none { s with repeats := true, number := if z then 0 else s.number })
  | dedupOld (fp now : BitVec 32) (window : BitVec 16) (s : State)
      (h : isDuplicate Config.hashGatesDup fp now window s = true) :
      Answers (.dedup fp now window) s (setAnswer true true .none s)
  | dedupNew (fp now : BitVec 32) (window : BitVec 16) (s : State)
      (h : isDuplicate Config.hashGatesDup fp now window s = false) :
      Answers (.dedup fp now window) s
        (setAnswer true false .none { s with fpLast := fp, tLast := now, fpValid := true })
  | txbuild (id : BitVec 24) (node : BitVec 8) (code : BitVec 16) (s : State) :
      Answers (.txbuild id node code) s (setAnswer true false .none (buildFrame id node code s))
  | txframe (primed : Bool) (s : State) (hv : s.txfValid = true) :
      Answers (.txframe primed) s (setAnswer true false .none (emitFrame Config.txTiming primed s))
  | txsendToken (id : BitVec 24) (node : BitVec 8) (token : BitVec 3) (s : State)
      (h : txCodeWith Config.cmdCodes token = none) :
      Answers (.txsend id node token) s (setAnswer false false .token s)
  | txsendStop (id : BitVec 24) (node : BitVec 8) (token : BitVec 3) (code : BitVec 16) (s : State)
      (hc : txCodeWith Config.cmdCodes token = some code) (ht : token = Command.stop.code) :
      Answers (.txsend id node token) s
        (setAnswer true false .none (emitSequence Config.txTiming true Config.nRepeats (buildFrame id node code s)))
  | txsendSustained (id : BitVec 24) (node : BitVec 8) (token : BitVec 3) (code : BitVec 16) (s : State)
      (hc : txCodeWith Config.cmdCodes token = some code) (ht : token ≠ Command.stop.code) :
      Answers (.txsend id node token) s
        (setAnswer true false .none (Machine.emitRelease Config.txTiming Config.cmdCodes id node
          (emitSequence Config.txTiming true Config.nRepeats (buildFrame id node code s))))

/-- No operation stops the machine, and what it answers is one of the endings above. -/
theorem exec_answers (i : Instr) (s : State) : ∃ t, exec i s = .next t ∧ Answers i s t := by
  cases i with
  | band b nominal tol =>
    rcases execBand_cases b nominal tol s with ⟨-, e⟩ | ⟨-, -, e⟩ | ⟨h, h1, h2, e⟩
    · exact ⟨_, e, .configFault _ _ _⟩
    · exact ⟨_, e, .configFault _ _ _⟩
    · exact ⟨_, e, .band _ _ _ _ h h1 h2⟩
  | bandclr b => exact ⟨_, rfl, .bandclr _ _⟩
  | classify d =>
    rcases classifySample_cases d s with ⟨-, e⟩ | ⟨ho, i, h, e⟩ | ⟨ho, h, e⟩
    · exact ⟨_, e, .configFault _ _ _⟩
    · exact ⟨_, e, .classifyHit _ _ _ ho h⟩
    · exact ⟨_, e, .classifyMiss _ _ ho h⟩
  | classifyp j =>
    rcases execClassifyp_cases j s with ⟨-, e⟩ | ⟨hj, e⟩
    · exact ⟨_, e, .configFault _ _ _⟩
    · rcases classifySample_cases (pulseAt s j.toNat) s with ⟨-, e'⟩ | ⟨ho, i, h, e'⟩ | ⟨ho, h, e'⟩
      · exact ⟨_, e.trans e', .configFault _ _ _⟩
      · exact ⟨_, e.trans e', .classifypHit _ _ _ hj ho h⟩
      · exact ⟨_, e.trans e', .classifypMiss _ _ hj ho h⟩
  | decode nbits count start smin smax lmin lmax =>
    rcases execDecode_cases nbits count start smin smax lmin lmax s with ⟨c, e⟩ | ⟨hn, hc, t, h, e⟩ | ⟨hn, hc, r, h, e⟩
    · exact ⟨_, e, .configFault _ _ _⟩
    · exact ⟨_, e, .decodeOk _ _ _ _ _ _ _ _ _ hn hc h⟩
    · exact ⟨_, e, .decodeBad _ _ _ _ _ _ _ _ _ hn hc h⟩
  | gate lo hi =>
    rcases execGate_cases lo hi s with ⟨h, e⟩ | ⟨h, e⟩
    · exact ⟨_, e, .gateIn _ _ _ h⟩
    · exact ⟨_, e, .gateOut _ _ _ h⟩
  | chksum lo hi =>
    rcases execChksum_cases lo hi s with ⟨c, e⟩ | ⟨h1, h2, e⟩
    · exact ⟨_, e, .configFault _ _ _⟩
    · exact ⟨_, e, .chksum _ _ _ h1 h2⟩
  | rxchk =>
    rcases execRxchk_cases s with ⟨-, e⟩ | ⟨hb, h, e⟩ | ⟨hb, h0, h, e⟩ | ⟨hb, h0, h, e⟩
    · exact ⟨_, e, .configFault _ _ _⟩
    · exact ⟨_, e, .rxchkHeader _ hb h⟩
    · exact ⟨_, e, .rxchkChecksum _ hb h0 h⟩
    · exact ⟨_, e, .rxchkOk _ hb h0 h⟩
  | emit proto =>
    rcases execEmit_cases proto s with ⟨-, e⟩ | ⟨hv, h, e⟩ | ⟨hv, h, e⟩
    · exact ⟨_, e, .configFault _ _ _⟩
    · exact ⟨_, e, .emitRelease _ _ hv h⟩
    · exact ⟨_, e, .emitRecord _ _ hv h⟩
  | consume z => exact ⟨_, rfl, .consume _ _⟩
  | dedup fp now window =>
    rcases execDedup_cases fp now window s with ⟨h, e⟩ | ⟨h, e⟩
    · exact ⟨_, e, .dedupOld _ _ _ _ h⟩
    · exact ⟨_, e, .dedupNew _ _ _ _ h⟩
  | txbuild id node code => exact ⟨_, rfl, .txbuild _ _ _ _⟩
  | txframe primed =>
    rcases execTxframe_cases primed s with ⟨-, e⟩ | ⟨hv, e⟩
    · exact ⟨_, e, .configFault _ _ _⟩
    · exact ⟨_, e, .txframe _ _ hv⟩
  | txsend id node token =>
    rcases execTxsend_cases id node token s with ⟨h, e⟩ | ⟨code, hc, ht, e⟩ | ⟨code, hc, ht, e⟩
    · exact ⟨_, e, .txsendToken _ _ _ _ h⟩
    · exact ⟨_, e, .txsendStop _ _ _ _ _ hc ht⟩
    · exact ⟨_, e, .txsendSustained _ _ _ _ _ hc ht⟩
  | reserved0 => exact ⟨_, rfl, .configFault _ _ _⟩
  | reservedF => exact ⟨_, rfl, .configFault _ _ _⟩

/-- The inversion of a step of an operation: invariants are proved by cases on this. -/
theorem answers_of_exec {i : Instr} {s t : State} (h : exec i s = .next t) : Answers i s t := by
  obtain ⟨u, e, a⟩ := exec_answers i s
  rw [e] at h
  cases h
  exact a

end Sys2Proof.Machine
end

