-- ==== Sys2Proof/Laws/PerInstr.lean ====
section
/-! SUPPORT. Laws/PerInstr.lean: one lemma per operation about its encoding. -/

namespace Sys2Proof.Laws.Select

/-- The select code of 30_encoding.md R82. -/
def code : Instr → Nat
  | .reserved0 => 0x0
  | .band _ _ _ => 0x1
  | .bandclr _ => 0x2
  | .classify _ => 0x3
  | .classifyp _ => 0x4
  | .decode _ _ _ _ _ _ _ => 0x5
  | .gate _ _ => 0x6
  | .chksum _ _ => 0x7
  | .rxchk => 0x8
  | .emit _ => 0x9
  | .consume _ => 0xA
  | .dedup _ _ _ => 0xB
  | .txbuild _ _ _ => 0xC
  | .txframe _ => 0xD
  | .txsend _ _ _ => 0xE
  | .reservedF => 0xF

/-- The encoding carries the operation's select code in CW[127:124], and the unused bits of CW are 0 (R80, R84). -/
def Statement (i : Instr) : Prop :=
  (selectCode (encode i)).toNat = code i ∧ (encode i).toNat % 2 ^ unusedBits i = 0

theorem band (b : Fin 4) (nominal tol : BitVec 16) : Statement (.band b nominal tol) := by
  constructor <;> simp [selectCode, encode, packWord, code, unusedBits, Nat.shiftRight_eq_div_pow]
  all_goals omega

theorem bandclr (b : Fin 4) : Statement (.bandclr b) := by
  constructor <;> simp [selectCode, encode, packWord, code, unusedBits, Nat.shiftRight_eq_div_pow]
  all_goals omega

theorem classify (d : Sample) : Statement (.classify d) := by
  constructor <;> simp [selectCode, encode, packWord, code, unusedBits, Nat.shiftRight_eq_div_pow]
  all_goals omega

theorem classifyp (i : BitVec 16) : Statement (.classifyp i) := by
  constructor <;> simp [selectCode, encode, packWord, code, unusedBits, Nat.shiftRight_eq_div_pow]
  all_goals omega

theorem decode (nbits : BitVec 8) (count start smin smax lmin lmax : BitVec 16) :
    Statement (.decode nbits count start smin smax lmin lmax) := by
  constructor <;> simp [selectCode, encode, packWord, code, unusedBits, Nat.shiftRight_eq_div_pow]
  all_goals omega

theorem gate (lo hi : BitVec 16) : Statement (.gate lo hi) := by
  constructor <;> simp [selectCode, encode, packWord, code, unusedBits, Nat.shiftRight_eq_div_pow]
  all_goals omega

theorem chksum (lo hi : BitVec 8) : Statement (.chksum lo hi) := by
  constructor <;> simp [selectCode, encode, packWord, code, unusedBits, Nat.shiftRight_eq_div_pow]
  all_goals omega

theorem rxchk : Statement .rxchk := by constructor <;> decide

theorem emit (proto : BitVec 8) : Statement (.emit proto) := by
  constructor <;> simp [selectCode, encode, packWord, code, unusedBits, Nat.shiftRight_eq_div_pow]
  all_goals omega

theorem consume (z : Bool) : Statement (.consume z) := by cases z <;> constructor <;> decide

theorem dedup (fp now : BitVec 32) (window : BitVec 16) : Statement (.dedup fp now window) := by
  constructor <;> simp [selectCode, encode, packWord, code, unusedBits, Nat.shiftRight_eq_div_pow]
  all_goals omega

theorem txbuild (id : BitVec 24) (node : BitVec 8) (c : BitVec 16) : Statement (.txbuild id node c) := by
  constructor <;> simp [selectCode, encode, packWord, code, unusedBits, Nat.shiftRight_eq_div_pow]
  all_goals omega

theorem txframe (primed : Bool) : Statement (.txframe primed) := by cases primed <;> constructor <;> decide

theorem txsend (id : BitVec 24) (node : BitVec 8) (token : BitVec 3) : Statement (.txsend id node token) := by
  constructor <;> simp [selectCode, encode, packWord, code, unusedBits, Nat.shiftRight_eq_div_pow]
  all_goals omega

theorem reserved0 : Statement .reserved0 := by constructor <;> decide

theorem reservedF : Statement .reservedF := by constructor <;> decide

end Sys2Proof.Laws.Select
end

