-- ==== Sys2Proof/Tests/Slice0.lean ====
section
/-! SUPPORT. Tests/Slice0.lean: small tests. Expected results are those of spec/95_test_vectors.md, named by their ids, or are
worked out by hand from the rule named; the witnesses show that the hypotheses of the statements can be met. -/

namespace Sys2Proof.Tests

open Sys2Proof Machine Claims

/-! ## A small state -/

/-- A state with no free value in it. -/
def base : State where
  st := 0x00
  cfgCause := 0
  multiply := 25
  number := 17
  repeats := false
  bands := #v[⟨true, 8, 16⟩, ⟨true, 20, 28⟩, ⟨false, 0, 0⟩, ⟨false, 0, 0⟩]
  matchReg := 4
  fbBits := 0
  sum := 0
  rxId := 0
  rxNode := 0
  rxCode := 0
  rxCmd := 0
  rxValid := false
  fpLast := 0
  tLast := 0
  fpValid := false
  hash := 5
  hashPrev := 5
  txfValid := false
  line := false
  pulse := []
  fb := []
  txf := []
  trace := []
  events := []
  pending := []
  draws := 1
  epoch := 0

/-- The buffer of V-DE1. -/
def captured : State :=
  { base with pulse := Memory.ofList [40, 24, 99, 12, 99, 24, 99, 12, 99, 24, 99, 24, 99, 12, 99, 12, 99] }

/-- The frame of V-RX1 in FB. -/
def framed : State :=
  { base with
    fbBits := 65
    fb := Memory.ofList [0xAC, 0x1A, 0x60, 0x2A, 0x01, 0x00, 0x0B, 0xB0, 0x80, 0, 0, 0, 0, 0, 0, 0] }

/-- A checked packet, as V-RX1 leaves it. -/
def checked : State := { base with rxValid := true, rxId := 0x1A602A, rxNode := 1, rxCode := 0x000B, rxCmd := 1 }

/-- The slot after step 1 of V-DD. -/
def remembered : State := { base with fpLast := 0xA, tLast := 1000, fpValid := true }

/-- The test values of the durations (95_test_vectors.md). -/
def testTiming : Config.TxTiming := ⟨300, 600, 4800, 1500, 300, 300, 0, 100000⟩

/-- The test values of the codes (95_test_vectors.md). -/
def testCodes : Config.CmdCodes := ⟨0x0043, 0x0023, 0x0024⟩

/-- The operation ended with a next state that passes the test. -/
def after (a : Answer) (p : State → Bool) : Bool :=
  match a with
  | .next s => p s
  | .fault _ => false
  | .refused _ => false

/-! ## WellFormed: one ill-formed term per check -/

theorem test_wf_decode : (Instr.decode 129 17 1 8 16 20 28).wf = false := by decide
theorem test_wf_decode_limit : (Instr.decode 128 17 1 8 16 20 28).wf = true := by decide
theorem test_wf_chksum : (Instr.chksum 6 1).wf = false := by decide
theorem test_wf_txsend_unknown : (Instr.txsend 0x1A602A 1 0).wf = false := by decide
theorem test_wf_txsend_release : (Instr.txsend 0x1A602A 1 4).wf = false := by decide
theorem test_wf_reserved0 : Instr.reserved0.wf = false := by decide
theorem test_wf_reservedF : Instr.reservedF.wf = false := by decide

/-! ## Decoding: the words of 95_test_vectors.md, parts 2 and 3, packed by hand from 30_encoding.md R81 -/

theorem test_decode_band : decode 0x14096001900000000000000000000000 = .band 1 600 100 := by decide
theorem test_decode_bandclr : decode 0x28000000000000000000000000000000 = .bandclr 2 := by decide
theorem test_decode_classify : decode 0x30010000000000000000000000000000 = .classify 16 := by decide
theorem test_decode_classifyp : decode 0x40001000000000000000000000000000 = .classifyp 1 := by decide
theorem test_decode_decode : decode 0x5410082000100C8019001F402BC00000 = .decode 65 130 1 200 400 500 700 := by decide
theorem test_decode_gate : decode 0x6003C006400000000000000000000000 = .gate 60 100 := by decide
theorem test_decode_chksum : decode 0x70106000000000000000000000000000 = .chksum 1 6 := by decide
theorem test_decode_rxchk : decode 0x8FFFFFFFFFFFFFFFFFFFFFFFFFFFFFFF = .rxchk := by decide
theorem test_decode_emit : decode 0x91200000000000000000000000000000 = .emit 18 := by decide
theorem test_decode_consume0 : decode 0xA0000000000000000000000000000000 = .consume false := by decide
theorem test_decode_consume1 : decode 0xAFFFFFFFFFFFFFFFFFFFFFFFFFFFFFFF = .consume true := by decide
theorem test_decode_dedup : decode 0xB1A602A0A000005DD01F400000000000 = .dedup 0x1A602A0A 1501 500 := by decide
theorem test_decode_txbuild : decode 0xC1A602A01000B0000000000000000000 = .txbuild 0x1A602A 1 0x000B := by decide
theorem test_decode_txframe0 : decode 0xD0000000000000000000000000000000 = .txframe false := by decide
theorem test_decode_txframe1 : decode 0xD8000000000000000000000000000000 = .txframe true := by decide
theorem test_decode_txsend : decode 0xE1A602A0180000000000000000000000 = .txsend 0x1A602A 1 4 := by decide
theorem test_decode_reserved0 : decode 0x00000000000000000000000000000000 = .reserved0 := by decide
theorem test_decode_reservedF : decode 0xF0000000000000000000000000000000 = .reservedF := by decide

/-- The opcode table numbers the bits as CW; a row longer than 128 bits is refused. -/
theorem test_decode_table_word :
    decodeTableWord 128 0x91200000000000000000000000000000 = some (.emit 18) ∧ decodeTableWord 136 0 = none := by decide

/-! ## Encoding: the same words the other way -/

theorem test_encode_band : encode (.band 0 300 100) = 0x1004B001900000000000000000000000 := by decide
theorem test_encode_decode : encode (.decode 8 17 1 8 16 20 28) = 0x50800110001000800100014001C00000 := by decide
theorem test_encode_dedup : encode (.dedup 0x1A602A0A 1000 500) = 0xB1A602A0A000003E801F400000000000 := by decide
theorem test_encode_txsend : encode (.txsend 0x1A602A 1 1) = 0xE1A602A0120000000000000000000000 := by decide

/-! ## One step of each operation -/

/-- V-BD4: the divisions round down. -/
theorem test_band : after (exec (.band 0 300 100) { base with multiply := 30 }) (fun t => t.ok && band t 0 == ⟨true, 6, 13⟩) = true := by
  decide
/-- V-BD11: one above the largest sum. -/
theorem test_band_arith :
    after (exec (.band 3 65000 536) { base with multiply := 1 }) (fun t => t.cfgErr && t.cfgCause == 4 && !(band t 3).v) = true := by
  decide
/-- V-BD14: MIN and MAX are kept. -/
theorem test_bandclr : after (exec (.bandclr 0) base) (fun t => t.ok && band t 0 == ⟨false, 8, 16⟩) = true := by decide
/-- V-CL5: the upper limit is included. -/
theorem test_classify : after (exec (.classify 16) base) (fun t => t.ok && t.matchReg == 0) = true := by decide
/-- V-CL7: the gap. -/
theorem test_classify_gap :
    after (exec (.classify 19) base) (fun t => !t.ok && t.reason == 2 && t.matchReg == 4) = true := by decide
/-- V-CL16: PULSE[1] is in band 1 here, and PULSE[17] is out of the buffer. -/
theorem test_classifyp : after (exec (.classifyp 1) captured) (fun t => t.ok && t.matchReg == 1) = true := by decide
theorem test_classifyp_range : after (exec (.classifyp 17) captured) (fun t => t.cfgErr && t.cfgCause == 6) = true := by decide
/-- V-DE1. -/
theorem test_decode_step :
    after (exec (.decode 8 17 1 8 16 20 28) captured) (fun t => t.ok && t.fbBits == 8 && fbAt t 0 == 0xAC && fbAt t 15 == 0) =
      true := by decide
/-- V-DE3: the input runs out at the last bit. -/
theorem test_decode_exhausted :
    after (exec (.decode 8 15 1 8 16 20 28) captured) (fun t => !t.ok && t.reason == 3 && t.fbBits == 0) = true := by decide
/-- V-GA2. -/
theorem test_gate : after (exec (.gate 130 130) { base with number := 129 }) (fun t => !t.ok && t.reason == 1) = true := by
  decide
/-- V-CS2: byte 8 is partly valid. -/
theorem test_chksum : after (exec (.chksum 0 8) framed) (fun t => t.ok && t.sum == 0x8C) = true := by decide
/-- V-CS8: the first byte that holds no valid bit. -/
theorem test_chksum_range :
    after (exec (.chksum 2 2) { framed with fbBits := 16 }) (fun t => t.cfgErr && t.cfgCause == 6 && t.sum == 0) = true := by
  decide
/-- V-RX1. -/
theorem test_rxchk :
    after (exec .rxchk framed) (fun t =>
      t.ok && t.sum == 0xB0 && t.rxValid && t.rxId == 0x1A602A && t.rxNode == 1 && t.rxCode == 0x000B && t.rxCmd == 1) =
      true := by decide
/-- V-RX3. -/
theorem test_rxchk_checksum :
    after (exec .rxchk (fbWrite 7 0xB1 framed)) (fun t => !t.ok && t.reason == 5 && t.sum == 0xB0 && !t.rxValid) = true := by
  decide
/-- V-EM1. -/
theorem test_emit : after (exec (.emit 18) checked) (fun t => t.ok && t.events == [⟨18, 0x1A602A, 1, 1⟩]) = true := by decide
/-- V-EM2: a Release. -/
theorem test_emit_release : after (exec (.emit 18) { checked with rxCmd := 4 }) (fun t => t.ok && t.events == []) = true := by
  decide
/-- V-CO1 and V-CO2. -/
theorem test_consume0 : after (exec (.consume false) base) (fun t => t.ok && t.repeats && t.number == 17) = true := by decide
theorem test_consume1 : after (exec (.consume true) base) (fun t => t.ok && t.repeats && t.number == 0) = true := by decide
/-- V-DD step 3: the age equals the window. -/
theorem test_dedup_window : after (exec (.dedup 0xA 1500 500) remembered) (fun t => t.ok && t.dup && t.tLast == 1000) = true := by
  decide
/-- V-DD13: the age wraps. -/
theorem test_dedup_wrap :
    after (exec (.dedup 0xA 0x000000F5 500) { remembered with tLast := 0xFFFFFF00 })
      (fun t => t.ok && !t.dup && t.tLast == 0xF5) = true := by decide
/-- V-TX4: the sum wraps. -/
theorem test_txbuild :
    after (exec (.txbuild 0x123456 0x80 0x0024) base) (fun t =>
      t.ok && t.txfValid &&
        t.txf == Memory.ofList [0xAC, 0x12, 0x34, 0x56, 0x80, 0x00, 0x24, 0x40, 0x80]) = true := by decide
/-- V-TX8. -/
theorem test_txframe_empty : after (exec (.txframe false) base) (fun t => t.cfgErr && t.cfgCause == 6 && t.trace == []) = true := by
  decide
/-- V-TX12: Release is no token. -/
theorem test_txsend_token : after (exec (.txsend 0x1A602A 1 4) base) (fun t => !t.ok && t.reason == 6 && !t.txfValid) = true := by
  decide
/-- V-CF1 and V-CF2: the first cause is kept. -/
theorem test_reserved0 : after (exec .reserved0 base) (fun t => t.cfgErr && t.cfgCause == 1 && !t.ok) = true := by decide
theorem test_reservedF :
    after (exec .reservedF { base with st := 0x80, cfgCause := 3 }) (fun t => t.cfgErr && t.cfgCause == 3) = true := by decide

/-! ## The transmit side at the test values of the OPEN parameters -/

/-- V-TX6. -/
theorem test_frame_segments :
    (let t := emitFrame testTiming false (buildFrame 0x1A602A 1 0x000B base)
     t.trace.length == 132 && duration t.trace == 64800 && !t.line &&
       t.trace.take 6 == [⟨true, 4800⟩, ⟨false, 1500⟩, ⟨true, 600⟩, ⟨false, 300⟩, ⟨true, 300⟩, ⟨false, 600⟩]) = true := by
  decide +kernel
/-- V-TX9: the frame that a Stop leaves in TXF. -/
theorem test_txsend_stop :
    after (txsendWith testTiming testCodes 0x1A602A 1 3 base) (fun t =>
      t.ok && t.txfValid && t.txf == Memory.ofList [0xAC, 0x1A, 0x60, 0x2A, 0x01, 0x00, 0x23, 0xC8, 0x80]) = true := by
  decide +kernel
/-- V-TX10: the frame that an Up leaves in TXF is the release frame. -/
theorem test_txsend_up :
    after (txsendWith testTiming testCodes 0x1A602A 1 1 base) (fun t =>
      t.ok && t.txfValid && t.txf == Memory.ofList [0xAC, 0x1A, 0x60, 0x2A, 0x01, 0x00, 0x24, 0xC9, 0x80]) = true := by
  decide +kernel

/-! ## The reference receive sequence -/

/-- The capture of P1. -/
def p1Samples : List Sample :=
  [40, 24, 12, 12, 24, 24, 12, 12, 24, 24, 12, 24, 12, 12, 24, 12, 24, 12, 24, 12, 24, 12, 24, 24, 12, 24, 12, 12, 24, 24,
    12, 12, 24, 12, 24, 24, 12, 24, 12, 12, 24, 12, 24, 12, 24, 12, 24, 12] ++
  [24, 12, 24, 12, 24, 24, 12, 12, 24, 24, 12, 12, 24, 24, 12, 12, 24, 12, 24, 12, 24, 12, 24, 12, 24, 12, 24, 12, 24, 12,
    24, 24, 12, 12, 24, 12, 24, 12, 24, 12, 24, 12, 24, 12, 24, 12, 24, 12] ++
  [24, 12, 24, 12, 24, 12, 24, 12, 24, 24, 12, 12, 24, 24, 12, 24, 12, 24, 12, 12, 24, 24, 12, 24, 12, 12, 24, 12, 24, 12,
    24, 12, 24, 24]

/-- The start of P1. -/
def p1Start : State := { base with number := 130, pulse := Memory.ofList p1Samples }

/-- The arguments of P1. -/
def p1Args : RxSeqArgs := ⟨18, 8, 16, 20, 28, 1000, 500, true⟩

/-- The sequence ended with the result and passes the test. -/
def seqAfter (a : Host.Outcome (RxResult × State) Fault Refusal) (r : RxResult) (p : State → Bool) : Bool :=
  match a with
  | .next (q, s) => q == r && p s
  | .fault _ => false
  | .refused _ => false

/-- P1. -/
theorem test_rxseq_accepts :
    seqAfter (rxSeqWith fpDefault p1Args p1Start) .accepted (fun t =>
      t.events == [⟨18, 0x1A602A, 1, 1⟩] && t.fpLast == 0x1A602A0A && t.tLast == 1000 && t.number == 0 && t.repeats &&
        !t.cfgErr) = true := by decide +kernel

/-! ## Witnesses: encoding and the step -/

theorem witness_UnusedBits :
    (0x8FFFFFFFFFFFFFFFFFFFFFFFFFFFFFFF : CommandWord).toNat / 2 ^ unusedBits (decode 0x80000000000000000000000000000000) =
      (0x80000000000000000000000000000000 : CommandWord).toNat /
        2 ^ unusedBits (decode 0x80000000000000000000000000000000) := by decide

theorem witness_ReservedSelectCodes :
    (0x0FFFFFFFFFFFFFFFFFFFFFFFFFFFFFFF : CommandWord).toNat / 2 ^ 124 = 0 ∧
    (0xF0000000000000000000000000000000 : CommandWord).toNat / 2 ^ 124 = 15 ∧
    (0x10000000000000000000000000000000 : CommandWord).toNat / 2 ^ 124 ≠ 0 ∧
    (0xEFFFFFFFFFFFFFFFFFFFFFFFFFFFFFFF : CommandWord).toNat / 2 ^ 124 ≠ 15 := by decide

theorem witness_OperationsOffThePlainList :
    (Instr.decode 129 0 0 0 0 0 0).wf = false ∧ (Instr.chksum 1 0).wf = false ∧ (Instr.txsend 0 0 7).wf = false ∧
    Instr.reserved0.wf = false ∧ Instr.reservedF.wf = false := by decide

theorem witness_StepRunsTheDecodedOperation :
    ({ base with pending := [.op 0x80000000000000000000000000000000] } : State).pending =
      .op 0x80000000000000000000000000000000 :: [] ∧ 2 ^ 128 - 1 < 2 ^ 128 := by decide

theorem witness_NothingPresented : base.pending = [] := rfl

theorem witness_Capture :
    (∀ p ∈ ([(511, 7), (0, 1), (511, 9)] : List (Nat × Sample)), p.1 < 512) ∧ (512 : BitVec 16).toNat ≤ 512 ∧
    0 ∉ ([(511, 9)] : List (Nat × Sample)).map Prod.fst ∧ 512 ≤ (512, (7 : Sample)).1 ∧ 512 < (513 : BitVec 16).toNat := by
  decide

/-- A CAPTURE step inside and one outside the write set. -/
theorem witness_Capture_steps :
    after (step { base with pending := [.capture ⟨[(511, 7), (0, 1), (511, 9)], some 512, none, none, none, none⟩] })
      (fun t => pulseAt t 511 == 9 && pulseAt t 0 == 1 && t.number == 512 && t.multiply == 25) = true ∧
    step { base with pending := [.capture ⟨[(512, 7)], none, none, none, none, none⟩] } = .fault .captureOutOfRange ∧
    step { base with pending := [.capture ⟨[], some 513, none, none, none, none⟩] } = .fault .captureOutOfRange :=
  ⟨by decide, rfl, rfl⟩

theorem witness_Reset : ({ base with pending := [.reset] } : State).pending = .reset :: [] := rfl

/-- A state after a ConfigFault, with one operation still to come. -/
def marked : State := { base with st := 0x80, cfgCause := 3, pending := [.op 0x60082008200000000000000000000000] }

theorem witness_ConfigFaultMark :
    marked.cfgErr = true ∧ (∀ rest, marked.pending ≠ .reset :: rest) ∧ ∃ t, step marked = .next t :=
  ⟨by decide, fun rest h => by simp [marked] at h, _, rfl⟩

theorem witness_UnmarkedRun :
    ∃ s t, Input.reset ∉ s.pending ∧ Sys2Proof.core.run 3 s = .next t ∧ t.cfgErr = false :=
  ⟨{ base with pending := [.op 0x60082008200000000000000000000000, .op 0xA8000000000000000000000000000000] }, _,
    by decide, rfl, by decide⟩

theorem witness_OnlyDedup :
    KnownRepeat remembered 0xA 1500 500 ∧
    after (exec (.dedup 0xA 1500 500) remembered) (fun t => !t.cfgErr && t.dup) = true := by
  unfold KnownRepeat
  decide

/-- One rejection of each row of 60_exceptions.md R241's table. -/
theorem witness_EveryRejection :
    after (exec (.gate 18 18) base) (fun t => !t.cfgErr && !t.ok && t.reason == 1) = true ∧
    after (exec (.classify 17) base) (fun t => !t.cfgErr && !t.ok && t.reason == 2) = true ∧
    after (exec (.classifyp 0) captured) (fun t => !t.cfgErr && !t.ok && t.reason == 2) = true ∧
    after (exec (.decode 8 17 0 8 16 20 28) captured) (fun t => !t.cfgErr && !t.ok && t.reason == 2) = true ∧
    after (exec (.decode 9 17 1 8 16 20 28) captured) (fun t => !t.cfgErr && !t.ok && t.reason == 3) = true ∧
    after (exec .rxchk (fbWrite 0 0xAD framed)) (fun t => !t.cfgErr && !t.ok && t.reason == 4) = true ∧
    after (exec .rxchk (fbWrite 7 0xB1 framed)) (fun t => !t.cfgErr && !t.ok && t.reason == 5) = true ∧
    after (exec (.txsend 0x1A602A 1 0) base) (fun t => !t.cfgErr && !t.ok && t.reason == 6) = true := by decide

/-! ## Witnesses: bands -/

/-- V-CL18: touching bands. -/
def touching : State := { base with bands := #v[⟨true, 8, 16⟩, ⟨true, 17, 28⟩, ⟨false, 0, 65535⟩, ⟨true, 9, 1⟩] }

/-- V-CL18: bands that share one value. -/
def sharing : State := { base with bands := #v[⟨true, 8, 16⟩, ⟨true, 16, 28⟩, ⟨false, 0, 0⟩, ⟨false, 0, 0⟩] }

theorem touching_apart : BandsApart touching := by
  intro i j d hi hj
  obtain ⟨vi, li, ui⟩ := hi
  obtain ⟨vj, lj, uj⟩ := hj
  fin_cases i <;> fin_cases j <;> simp [band, touching, Vector.get] at vi vj li lj ui uj <;> first | rfl | omega

theorem sharing_overlap : ¬ BandsApart sharing := fun h =>
  absurd (h 0 1 16 ⟨rfl, by decide, by decide⟩ ⟨rfl, by decide, by decide⟩) (by decide)

theorem witness_Bands :
    ¬ BandsApart sharing ∧ (16 : BitVec 16).toNat < sharing.number.toNat ∧ (8 : Sample).toNat < (9 : Sample).toNat ∧
    (128 : BitVec 8).toNat ≤ 128 ∧ (17 : BitVec 16).toNat ≤ sharing.number.toNat ∧ overlap 8 16 16 28 = true :=
  ⟨sharing_overlap, by decide, by decide, by decide, by decide, by decide⟩

theorem witness_Band :
    (({ base with multiply := 1 } : State).multiply ≠ 0 ∧ (535 : BitVec 16).toNat ≤ (65000 : BitVec 16).toNat ∧
      (65000 : BitVec 16).toNat + (535 : BitVec 16).toNat ≤ 65535) ∧
    ({ base with multiply := 0 } : State).multiply = 0 ∧
    (base.multiply ≠ 0 ∧ (300 : BitVec 16).toNat < (301 : BitVec 16).toNat) ∧
    (base.multiply ≠ 0 ∧ 65535 < (65000 : BitVec 16).toNat + (536 : BitVec 16).toNat) := by decide

theorem witness_Classify :
    (BandsApart touching ∧ Holds touching 0 16 ∧ Holds touching 1 17) ∧
    (BandsApart touching ∧ ∀ i, ¬ Holds touching i 29) ∧
    ¬ BandsApart sharing := by
  refine ⟨⟨touching_apart, ⟨rfl, by decide, by decide⟩, rfl, by decide, by decide⟩, ⟨touching_apart, ?_⟩, sharing_overlap⟩
  intro i h
  obtain ⟨v, l, u⟩ := h
  fin_cases i <;> simp [band, touching, Vector.get] at v l u

theorem witness_Classifyp :
    ({ touching with pulse := [(16, 17), (15, 29)] } : State).number.toNat ≤ (17 : BitVec 16).toNat ∧
    (16 : BitVec 16).toNat < ({ touching with pulse := [(15, 29), (16, 17)] } : State).number.toNat ∧
    Holds touching 1 (pulseAt { touching with pulse := [(15, 29), (16, 17)] } 16) ∧
    (∀ i, ¬ Holds touching i (pulseAt { touching with pulse := [(15, 29), (16, 17)] } 15)) :=
  ⟨by decide, by decide, ⟨rfl, by decide, by decide⟩, witness_Classify.2.1.2⟩

theorem witness_TrueDuration :
    base.multiply ≠ 0 ∧ (100 : BitVec 16).toNat ≤ (300 : BitVec 16).toNat ∧
    (300 : BitVec 16).toNat + (100 : BitVec 16).toNat ≤ 65535 ∧ (300 : BitVec 16).toNat - (100 : BitVec 16).toNat ≤ 200 ∧
    400 ≤ (300 : BitVec 16).toNat + (100 : BitVec 16).toNat := by decide

/-! ## Witnesses: DECODE -/

theorem witness_DecodeChecks :
    128 < (129 : BitVec 8).toNat ∧
    ((128 : BitVec 8).toNat ≤ 128 ∧ captured.number.toNat < (18 : BitVec 16).toNat) ∧
    ((17 : BitVec 16).toNat ≤ captured.number.toNat ∧
      max (8 : Sample).toNat (20 : Sample).toNat ≤ min (20 : Sample).toNat (28 : Sample).toNat) ∧
    (min (16 : Sample).toNat (28 : Sample).toNat < max (8 : Sample).toNat (17 : Sample).toNat ∧ 0 < (1 : BitVec 8).toNat ∧
      (17 : BitVec 16).toNat ≤ (17 : BitVec 16).toNat) := by decide

/-- V-DE2: exactly enough samples. -/
theorem witness_DecodeRecoversTheBits :
    (8 : BitVec 8).toNat ≤ 128 ∧ (16 : BitVec 16).toNat ≤ captured.number.toNat ∧
    min (12 : Sample).toNat (24 : Sample).toNat < max (12 : Sample).toNat (24 : Sample).toNat ∧
    ∀ k < (8 : BitVec 8).toNat, (1 : BitVec 16).toNat + 2 * k < (16 : BitVec 16).toNat ∧
      ((0xAC : Byte).getLsbD (7 - k) = false → (12 : Sample).toNat ≤ (pulseAt captured ((1 : BitVec 16).toNat + 2 * k)).toNat ∧
        (pulseAt captured ((1 : BitVec 16).toNat + 2 * k)).toNat ≤ (12 : Sample).toNat) ∧
      ((0xAC : Byte).getLsbD (7 - k) = true → (24 : Sample).toNat ≤ (pulseAt captured ((1 : BitVec 16).toNat + 2 * k)).toNat ∧
        (pulseAt captured ((1 : BitVec 16).toNat + 2 * k)).toNat ≤ (24 : Sample).toNat) := by decide

theorem witness_DecodeRecoversTheBits_done :
    ∃ t, exec (.decode 8 16 1 12 12 24 24) captured = .next t ∧ t.ok = true := ⟨_, rfl, by decide⟩

/-- V-DE3 (EXHAUSTED at bit 7) and V-DE14 (TIMING at bit 1). -/
theorem witness_DecodeReportsItsFirstFailingBit :
    ((15 : BitVec 16).toNat ≤ captured.number.toNat ∧ 7 < (8 : BitVec 8).toNat ∧
      min (16 : Sample).toNat (28 : Sample).toNat < max (8 : Sample).toNat (20 : Sample).toNat ∧
      (∀ j < 7, (1 : BitVec 16).toNat + 2 * j < (15 : BitVec 16).toNat ∧
        (inBand (pulseAt captured ((1 : BitVec 16).toNat + 2 * j)) 8 16 = true ∨
          inBand (pulseAt captured ((1 : BitVec 16).toNat + 2 * j)) 20 28 = true)) ∧
      (15 : BitVec 16).toNat ≤ (1 : BitVec 16).toNat + 2 * 7) ∧
    ((∀ j < 1, (1 : BitVec 16).toNat + 2 * j < (17 : BitVec 16).toNat ∧
        (inBand (pulseAt captured ((1 : BitVec 16).toNat + 2 * j)) 13 16 = true ∨
          inBand (pulseAt captured ((1 : BitVec 16).toNat + 2 * j)) 20 28 = true)) ∧
      (1 : BitVec 16).toNat + 2 * 1 < (17 : BitVec 16).toNat ∧
      inBand (pulseAt captured ((1 : BitVec 16).toNat + 2 * 1)) 13 16 = false ∧
      inBand (pulseAt captured ((1 : BitVec 16).toNat + 2 * 1)) 20 28 = false) := by decide

/-- The samples between the examined ones are others, and DECODE still ends. -/
theorem witness_DecodeLooksAtEverySecondSample :
    (∀ k < (8 : BitVec 8).toNat,
      pulseAt { captured with pulse := Memory.ofList [1, 24, 2, 12, 3, 24, 4, 12, 5, 24, 6, 24, 7, 12, 8, 12] }
          ((1 : BitVec 16).toNat + 2 * k) =
        pulseAt captured ((1 : BitVec 16).toNat + 2 * k)) ∧
    ∃ t, exec (.decode 8 16 1 8 16 20 28) captured = .next t := ⟨by decide, _, rfl⟩

/-! ## Witnesses: frame check -/

theorem witness_Gate :
    ((17 : BitVec 16).toNat ≤ base.number.toNat ∧ base.number.toNat ≤ (17 : BitVec 16).toNat) ∧
    base.number.toNat < (18 : BitVec 16).toNat ∧ (16 : BitVec 16).toNat < base.number.toNat := by decide

theorem witness_Chksum :
    (0 : BitVec 8).toNat < (1 : BitVec 8).toNat ∧
    ((2 : BitVec 8).toNat ≤ (2 : BitVec 8).toNat ∧
      ({ framed with fbBits := 16 } : State).fbBits.toNat ≤ 8 * (2 : BitVec 8).toNat) ∧
    ((8 : BitVec 8).toNat ≤ (8 : BitVec 8).toNat ∧ 8 * (8 : BitVec 8).toNat < framed.fbBits.toNat) := by decide

theorem framed_good : GoodFrame framed := ⟨by decide, by decide, by decide⟩

theorem witness_RxchkRejects :
    ({ framed with fbBits := 63 } : State).fbBits.toNat < 64 ∧
    (64 ≤ ({ framed with fbBits := 64 } : State).fbBits.toNat ∧
      fbAt { framed with fb := Memory.ofList [0xAD, 0x1A, 0x60, 0x2A, 0x01, 0x00, 0x0B, 0xB1] } 0 ≠ 0xAC) ∧
    (fbAt { framed with fb := Memory.ofList [0xAC, 0x1A, 0x60, 0x2A, 0x01, 0x00, 0x0B, 0xB1] } 0 = 0xAC ∧
      fbSum { framed with fb := Memory.ofList [0xAC, 0x1A, 0x60, 0x2A, 0x01, 0x00, 0x0B, 0xB1] } ≠
        (fbAt { framed with fb := Memory.ofList [0xAC, 0x1A, 0x60, 0x2A, 0x01, 0x00, 0x0B, 0xB1] } 7).toNat) := by
  decide

/-- A frame of any code in FB. -/
def holding (code : BitVec 16) : State := { base with fbBits := 64, fb := Memory.ofList (frameBytes 0x1A602A 1 code) }

theorem holding_good (code : BitVec 16) : GoodFrame (holding code) := by
  refine ⟨Nat.le_refl 64, rfl, ?_⟩
  have h5 : fbAt (holding code) 5 = code.extractLsb' 8 8 := rfl
  have h6 : fbAt (holding code) 6 = code.extractLsb' 0 8 := rfl
  have h7 : fbAt (holding code) 7 = byteSum [0x1A, 0x60, 0x2A, 0x01, code.extractLsb' 8 8, code.extractLsb' 0 8] := rfl
  have h1 : (fbAt (holding code) 1).toNat = 0x1A := rfl
  have h2 : (fbAt (holding code) 2).toNat = 0x60 := rfl
  have h3 : (fbAt (holding code) 3).toNat = 0x2A := rfl
  have h4 : (fbAt (holding code) 4).toNat = 0x01 := rfl
  rw [fbSum, h1, h2, h3, h4, h5, h6, h7, byteSum]
  simp
  omega

theorem holding_code (code : BitVec 16) : fbAt (holding code) 5 ++ fbAt (holding code) 6 = code := by
  show code.extractLsb' 8 8 ++ code.extractLsb' 0 8 = code
  apply BitVec.eq_of_getLsbD_eq
  intro i hi
  rw [BitVec.getLsbD_append]
  split
  · simp [*]
  · have h : i - 8 < 8 := by omega
    have e : 8 + (i - 8) = i := by omega
    simp [h, e]

/-- Some code is none of the four. -/
theorem witness_RawCodes :
    ∃ c : BitVec 16, c ≠ 0x000B ∧ c ≠ Config.cmdCodes.down ∧ c ≠ Config.cmdCodes.stop ∧ c ≠ Config.cmdCodes.release := by
  generalize Config.cmdCodes.down = x
  generalize Config.cmdCodes.stop = y
  generalize Config.cmdCodes.release = z
  have hlt : ({x, y, z} : Finset (BitVec 16)).card < ({0, 1, 2, 3} : Finset (BitVec 16)).card :=
    Nat.lt_of_le_of_lt Finset.card_le_three (by decide)
  obtain ⟨c, hc, hn⟩ := Finset.exists_mem_notMem_of_card_lt_card hlt
  simp only [Finset.mem_insert, Finset.mem_singleton, not_or] at hc hn
  exact ⟨c, by rcases hc with rfl | rfl | rfl | rfl <;> decide, hn.1, hn.2.1, hn.2.2⟩

/-- A good frame whose code is Unknown. -/
theorem witness_RawCodes_frame :
    ∃ s : State, GoodFrame s ∧ cmdMap (fbAt s 5 ++ fbAt s 6) = .unknown := by
  obtain ⟨c, h0, h1, h2, h3⟩ := witness_RawCodes
  have h0' : ¬ c = Config.cmdUp := h0
  exact ⟨holding c, holding_good c, by rw [holding_code, cmdMap, cmdMapWith, if_neg h0', if_neg h1, if_neg h2, if_neg h3]⟩

theorem witness_SingleBit : GoodFrame framed ∧ (0 ≤ 8 ∧ 7 < 8) ∧ (1 ≤ 1 ∧ 7 ≤ 7) ∧ 8 ≤ 8 := ⟨framed_good, by decide⟩

theorem witness_Emit :
    base.rxValid = false ∧ (checked.rxValid = true ∧ checked.rxCmd ≠ 4) ∧
    (({ checked with rxCmd := 4 } : State).rxValid = true ∧ ({ checked with rxCmd := 4 } : State).rxCmd = 4) := by decide

theorem witness_Release :
    GoodFrame (holding Config.cmdCodes.release) ∧
    fbAt (holding Config.cmdCodes.release) 5 ++ fbAt (holding Config.cmdCodes.release) 6 = Config.cmdCodes.release :=
  ⟨holding_good _, holding_code _⟩

theorem witness_Consume :
    (∃ t, exec (.consume true) base = .next t) ∧ (128 : BitVec 8).toNat ≤ 128 ∧ 0 < (1 : BitVec 16).toNat ∧
    1 ≤ (1 : BitVec 16).toNat := ⟨⟨_, rfl⟩, by decide⟩

/-! ## Witnesses: duplicate suppression -/

/-- V-DD steps 3, 11 and 6: at the window's end, one past it, another signal hash. -/
theorem witness_Dedup :
    KnownRepeat remembered 0xA 1500 500 ∧ ¬ KnownRepeat remembered 0xA 1501 500 ∧
    ¬ KnownRepeat { remembered with hashPrev := 6 } 0xA 1500 500 := by
  unfold KnownRepeat
  decide

theorem witness_Timestamp : ∃ t, exec (.dedup 0xB 1500 500) remembered = .next t := ⟨_, rfl⟩

/-- A packet accepted as new, then a CAPTURE step and a GATE. -/
theorem witness_Repeat :
    ∃ (a b : State) (xs : List Input), exec (.dedup 0xA 1000 500) base = .next a ∧ a.dup = false ∧
      (∀ x ∈ xs, leavesSlot x = true) ∧ Leads xs a b ∧ b.hash = b.hashPrev ∧
      (1500 + 2 ^ 32 - 1000) % 2 ^ 32 ≤ (500 : BitVec 16).toNat ∧ ¬ (1501 + 2 ^ 32 - 1000) % 2 ^ 32 ≤ (500 : BitVec 16).toNat :=
  ⟨_, _, [.capture ⟨[(0, 1)], some 1, none, some false, some 9, some 9⟩, .op 0x60082008200000000000000000000000], rfl,
    by decide, by decide, ⟨_, rfl, _, rfl, rfl⟩, rfl, by decide, by decide⟩

/-! ## Witnesses: transmit -/

theorem witness_Txframe : base.txfValid = false ∧ ({ base with txfValid := true } : State).txfValid = true := by decide

theorem witness_TxsendRejects :
    ((0 : BitVec 3) ≠ 1 ∧ (0 : BitVec 3) ≠ 2 ∧ (0 : BitVec 3) ≠ 3) ∧ ((4 : BitVec 3) ≠ 1 ∧ (4 : BitVec 3) ≠ 2 ∧ (4 : BitVec 3) ≠ 3) ∧
    ((7 : BitVec 3) ≠ 1 ∧ (7 : BitVec 3) ≠ 2 ∧ (7 : BitVec 3) ≠ 3) := by decide

theorem witness_Transmissions :
    (∃ t, exec (.txsend 0x1A602A 1 3) base = .next t) ∧ (∃ t, exec (.txsend 0x1A602A 1 1) base = .next t) ∧
    (∃ t, exec (.txsend 0x1A602A 1 2) base = .next t) ∧
    (∃ t, exec (.txframe true) { base with txfValid := true } = .next t) := ⟨⟨_, rfl⟩, ⟨_, rfl⟩, ⟨_, rfl⟩, _, rfl⟩

/-- P4 with the test values at the unit scale 25: the samples of the capture are the durations of the driven frame. -/
theorem witness_DecoderRecovers :
    ValidTiming testTiming ∧ (testTiming.tShort + 100) / 25 < (testTiming.tLong - 100) / 25 ∧
    (testTiming.tLong + 100) / 25 ≤ 65535 ∧ (130 : BitVec 16).toNat ≤ p1Start.number.toNat ∧
    (1 : BitVec 16).toNat + 128 < (130 : BitVec 16).toNat ∧ base.trace = [] ∧
    ∀ k < 65, (pulseAt p1Start ((1 : BitVec 16).toNat + 2 * k)).toNat =
      (((emitFrame testTiming false (buildFrame 0x1A602A 1 0x000B base)).trace.getD (2 + 2 * k) ⟨false, 0⟩).us) / 25 :=
  ⟨by unfold ValidTiming; decide, by decide, by decide, by decide, by decide, rfl, by decide +kernel⟩

/-! ## Witnesses: the reference receive sequence -/

theorem witness_RejectedSequence : ∃ t, rxSeq p1Args base = .next (.rejected, t) := ⟨_, rfl⟩

/-- P1, whatever FP_FN is. -/
theorem witness_AcceptingSequence : ∃ t, rxSeq p1Args p1Start = .next (.accepted, t) ∧ t.cfgErr = false := ⟨_, rfl, rfl⟩

/-- P2, run 3: the repeat at the window's end, whatever FP_FN is. -/
def p2Start : State := { p1Start with fpLast := Config.fpFn 0x1A602A 1 0x000B, tLast := 500, fpValid := true }

theorem p2_accepts : ∃ s3, rxSeq p1Args p2Start = rxSeqAccept Config.fpFn p1Args s3 ∧
    Config.fpFn s3.rxId s3.rxNode s3.rxCode = s3.fpLast ∧ s3.tLast = 500 ∧ s3.fpValid = true ∧ s3.hash = s3.hashPrev ∧
    s3.cfgErr = false := ⟨_, rfl, rfl, rfl, rfl, rfl, rfl⟩

theorem witness_AcceptingSequence_duplicate :
    ∃ t, rxSeq p1Args p2Start = .next (.acceptedDuplicate, t) ∧ t.cfgErr = false := by
  obtain ⟨s3, h, hf, ht, hv, hh, hc⟩ := p2_accepts
  have hd : isDuplicate Config.hashGatesDup (Config.fpFn s3.rxId s3.rxNode s3.rxCode) p1Args.now p1Args.window s3 = true := by
    rw [isDuplicate, hf, ht, hv, hh]
    simp [p1Args, inWindow, age]
  have he : exec (.dedup (Config.fpFn s3.rxId s3.rxNode s3.rxCode) p1Args.now p1Args.window) s3 =
      .next (setAnswer true true .none s3) := by
    show execDedup _ _ _ _ = _
    rw [execDedup, dedupWith, if_pos hd]
    rfl
  rw [h, rxSeqAccept, he, andThen_next, if_pos (by simp)]
  exact ⟨_, rfl, by simpa [State.cfgErr] using hc⟩

/-- A capture of a frame of any code, ideal at the unit scale 25. -/
def airing (code : BitVec 16) : State :=
  { base with
    number := 130
    pulse := Memory.ofList ((List.range 130).map fun i => if (frameBit 0x1A602A 1 code (i / 2)) then 24 else 12) }

/-- The same after the GATE. -/
def gated (code : BitVec 16) : State := setAnswer true false .none (airing code)

theorem airing_pulse (code : BitVec 16) {k : Nat} (h : k < 65) :
   pulseAt (gated code) (1 + 2 * k) = if frameBit 0x1A602A 1 code k then 24 else 12 := by
  have hi : 1 + 2 * k < 130 := by omega
  have e : (1 + 2 * k) / 2 = k := by omega
  simp [pulseAt, gated, airing, hi, e]

theorem airing_decode (code : BitVec 16) : ∃ t, decodeBits ⟨8, 16, 20, 28⟩ 130 1 65 0 (clearFb (gated code)) = .ok t ∧ ∀ k < 65, fbBit t k = frameBit 0x1A602A 1 code k := by
  obtain ⟨t, h, hb⟩ := decodeBits_ok (b := ⟨8, 16, 20, 28⟩) (count := 130) (start := 1) (n := 65) (k := 0) (s := clearFb (gated code)) (bits := frameBit 0x1A602A 1 code) (by
    intro j hj
    rw [examineBit_clearFb, examineBit, if_neg (by simp [Config.stride]; omega)]
    have : (BitVec.toNat (1 : BitVec 16) + Config.stride * (0 + j)) = 1 + 2 * j := by simp [Config.stride]
    rw [this, airing_pulse code hj, Nat.zero_add]
    cases frameBit 0x1A602A 1 code j <;> rfl)
  refine ⟨t, h, fun k hk => ?_⟩
  rw [hb, if_pos (by omega), fbBit_clearFb (by simp [Config.frameMax]; omega)]
  simp

theorem frameByte_lt (code : BitVec 16) (j : Nat) : frameByte 0x1A602A 1 code j < 256 := by
  have := code.isLt
  unfold frameByte
  split <;> simp <;> omega

theorem airing_bytes (code : BitVec 16) {t : State} (h : ∀ k < 65, fbBit t k = frameBit 0x1A602A 1 code k) {j : Nat} (hj : j < 8) :
    (fbAt t j).toNat = frameByte 0x1A602A 1 code j := by
  have : fbAt t j = BitVec.ofNat 8 (frameByte 0x1A602A 1 code j) := by
    apply BitVec.eq_of_getLsbD_eq
    intro i hi
    have hk := h (8 * j + (7 - i)) (by omega)
    have e1 : (8 * j + (7 - i)) / 8 = j := by omega
    have e2 : 7 - (8 * j + (7 - i)) % 8 = i := by omega
    rw [fbBit, frameBit, e1, e2] at hk
    rw [hk, BitVec.getLsbD_ofNat]
    simp [hi]
  rw [this, BitVec.toNat_ofNat, Nat.mod_eq_of_lt (frameByte_lt code j)]

theorem airing_rxchk (code : BitVec 16) {t : State} (hb : t.fbBits = 65)
    (h : ∀ j < 8, (fbAt t j).toNat = frameByte 0x1A602A 1 code j) :
    ∃ u, exec .rxchk t = .next u ∧ u.ok = true ∧ u.rxCmd = (cmdMap code).code ∧ u.cfgErr = t.cfgErr := by
  have e0 : fbAt t 0 = Config.txHeader := BitVec.eq_of_toNat_eq (h 0 (by decide))
  have e56 : frameCode t = code := by
    apply BitVec.eq_of_toNat_eq
    have h5 : (fbAt t 5).toNat = code.toNat / 256 := h 5 (by decide)
    have h6 : (fbAt t 6).toNat = code.toNat % 256 := h 6 (by decide)
    rw [frameCode, BitVec.toNat_append, ← Nat.shiftLeft_add_eq_or_of_lt (fbAt t 6).isLt, h5, h6, Nat.shiftLeft_eq]
    omega
  have hs : frameSum t = fbAt t 7 := by
    apply BitVec.eq_of_toNat_eq
    have r : List.range (6 + 1 - 1) = [0, 1, 2, 3, 4, 5] := by decide
    rw [frameSum, byteSum, fbRange, r]
    simp only [List.map_cons, List.map_nil, List.sum_cons, List.sum_nil, h _ (by decide : 1 + 0 < 8), h _ (by decide : 1 + 1 < 8),
      h _ (by decide : 1 + 2 < 8), h _ (by decide : 1 + 3 < 8), h _ (by decide : 1 + 4 < 8), h _ (by decide : 1 + 5 < 8),
      h 7 (by decide), BitVec.toNat_ofNat, frameByte]
    omega
  refine ⟨_, (by
    show execRxchk t = _
    rw [execRxchk, if_neg (by rw [hb]; decide), if_neg (by simpa using e0), if_neg (by simpa using hs)]
    rfl), by simp, ?_, by simp [State.cfgErr]⟩
  show (cmdMap (frameCode t)).code = _
  rw [e56]

theorem release_mapped : (cmdMap Config.cmdCodes.release).code = Command.release.code := by
  have hd : Config.cmdCodes.distinct = true := by
    unfold Config.cmdCodes
    split
    · assumption
    · decide
  simp only [Config.CmdCodes.distinct, Bool.and_eq_true, bne_iff_ne, ne_eq] at hd
  obtain ⟨⟨⟨⟨⟨-, -⟩, h0⟩, -⟩, h1⟩, h2⟩ := hd
  rw [cmdMap, cmdMapWith, if_neg h0, if_neg (Ne.symm h1), if_neg (Ne.symm h2), if_pos rfl]

/-- P4's second capture with the Release code the model has, whatever that is. -/
theorem witness_AcceptingSequence_release :
    ∃ t, rxSeq p1Args (airing Config.cmdCodes.release) = .next (.acceptedNoEvent, t) ∧ t.cfgErr = false := by
  obtain ⟨t, hd, hb⟩ := airing_decode Config.cmdCodes.release
  have hg : exec (.gate Config.rxCountMin Config.rxCountMax) (airing Config.cmdCodes.release) =
      .next (gated Config.cmdCodes.release) := rfl
  have hx : exec (.decode (BitVec.ofNat 8 Config.txDataBits) 130 Config.rxStart 8 16 20 28) (gated Config.cmdCodes.release) =
      .next (setAnswer true false .none { t with fbBits := 65 }) := by
    show execDecode 65 130 1 8 16 20 28 _ = _
    rw [execDecode, if_neg (by decide), if_neg (show ¬ (gated Config.cmdCodes.release).number.toNat < (130 : BitVec 16).toNat from Nat.lt_irrefl 130),
      if_neg (by decide)]
    have e : (65 : BitVec 8).toNat = 65 := rfl
    rw [e, hd]
    rfl
  obtain ⟨u, hr, ho, hc, he⟩ := airing_rxchk Config.cmdCodes.release (t := setAnswer true false .none { t with fbBits := 65 }) rfl
    (fun j hj => airing_bytes Config.cmdCodes.release (t := setAnswer true false .none { t with fbBits := 65 }) hb hj)
  rw [release_mapped] at hc
  have hn : (gated Config.cmdCodes.release).number = 130 := rfl
  rw [rxSeq, rxSeqWith, issueOr, hg, andThen_next, if_pos (by simp [gated])]
  rw [issueOr, hn]
  show ∃ v, andThen (exec (.decode (BitVec.ofNat 8 Config.txDataBits) 130 Config.rxStart 8 16 20 28) _) _ = _ ∧ _
  rw [hx, andThen_next, if_pos (by simp)]
  rw [issueOr, hr, andThen_next, if_pos ho]
  rw [if_pos hc]
  refine ⟨_, rfl, ?_⟩
  have hst : t.st = statusAnswer 0x00 true false .none := by
    rw [decodeBits_frame hd]
    rfl
  have : t.cfgErr = false := by
    rw [State.cfgErr, hst]
    decide
  have h2 : u.cfgErr = false := by rw [he]; simpa [State.cfgErr] using this
  simpa [State.cfgErr] using h2

/-- The hypotheses of the end-to-end statement, met by P1's capture. -/
theorem witness_CapturedFrame :
    p1Start.number = 130 ∧
    min p1Args.smax.toNat p1Args.lmax.toNat < max p1Args.smin.toNat p1Args.lmin.toNat ∧
    (∀ k < 65,
      (frameBit 0x1A602A 1 0x000B k = false → inBand (pulseAt p1Start (1 + 2 * k)) p1Args.smin p1Args.smax = true) ∧
      (frameBit 0x1A602A 1 0x000B k = true → inBand (pulseAt p1Start (1 + 2 * k)) p1Args.lmin p1Args.lmax = true)) ∧
    commandOf 0x000B ≠ 4 ∧ ¬ KnownRepeat p1Start (Config.fpFn 0x1A602A 1 0x000B) p1Args.now p1Args.window :=
  ⟨rfl, by decide, by decide +kernel, by decide, fun h => absurd h.1 (by decide)⟩

/-! ## Witnesses: frames and invariants -/

theorem witness_Frames :
    (∃ t, exec (.classify 16) base = .next t) ∧ Reg.number ∉ mayWrite (.classify 16) ∧ bandWritten (.band 1 600 100) ≠ some 0 ∧
    writesFb .rxchk = false ∧ writesTxf .rxchk = false ∧ drivesLine .rxchk = false ∧ emitsRecord .rxchk = false :=
  ⟨⟨_, rfl⟩, by decide⟩

theorem witness_Histories :
    (∀ rest, ({ checked with pending := [.op 0x91200000000000000000000000000000] } : State).pending ≠ .reset :: rest) ∧
    ∃ t, step { checked with pending := [.op 0x91200000000000000000000000000000] } = .next t :=
  ⟨fun rest h => by simp at h, _, rfl⟩

theorem witness_RegisterInv : RegisterInv base where
  reserved := by decide
  reason := by decide
  okReason := by decide
  dupOk := by decide
  cause := by decide
  causeMark := by decide
  matchCode := by decide
  rxCmdCode := by decide
  number := by decide
  fbBits := by decide
  bands := by decide
  line := by decide

theorem witness_MemoryInv : MemoryInv captured := ⟨by decide, by decide, by decide⟩

theorem witness_GuardInv : GuardInv { framed with txfValid := true, txf := Memory.ofList (frameBytes 0x1A602A 1 0x000B) } where
  fbTail := fun _ k h1 h2 =>
    (show ∀ k < 128, 65 ≤ k →
        fbBit { framed with txfValid := true, txf := Memory.ofList (frameBytes 0x1A602A 1 0x000B) } k = false by
      decide +kernel) k h2 h1
  txfHeader := by decide
  txfSum := by decide
  txfTrailer := by decide
  rxMapped := by decide

theorem witness_HistoryInv : HistoryInv { checked with trace := [⟨true, 1⟩], events := [⟨18, 0x1A602A, 1, 1⟩] } where
  trace := by decide
  events := by decide

/-- Each of the four invariants has a step from a state that meets it. -/
theorem witness_InvSteps :
    (∃ t, step { base with pending := [.op 0x91200000000000000000000000000000] } = .next t) ∧
    (∃ t, step { captured with pending := [.op 0x50800110001000800100014001C00000] } = .next t) := ⟨⟨_, rfl⟩, _, rfl⟩

end Sys2Proof.Tests
end

section
/-! Endings of an operation: `done`, `reject` and `raise ConfigFault` as the model's updates (00_scope.md R8), and how the
statements of `Claims` are met by them. -/

namespace Sys2Proof.Machine

theorem Reason.code_pos {r : Reason} (h : r ≠ .none) : 1 ≤ r.code.toNat := by
  cases r with
  | none => exact absurd rfl h
  | count | timing | exhausted | header | checksum | token => decide

theorem Cause.code_pos (c : Cause) : 1 ≤ c.code.toNat := by
  cases c <;> decide

/-- A pulse the loop cannot decide rejects with one of two reasons (41_pwm_decoder.md R132). -/
theorem examineBit_error {b : PwmBands} {count start : BitVec 16} {s : State} {k : Nat} {r : Reason}
    (h : examineBit b count start s k = .error r) : r = .exhausted ∨ r = .timing := by
  rw [examineBit_eq] at h
  split at h
  · cases h
    exact .inl rfl
  · split at h
    · cases h
    · cases h
      exact .inr rfl

theorem decodeBits_error_reason {b : PwmBands} {count start : BitVec 16} {n k : Nat} {s : State} {r : Reason}
    (h : decodeBits b count start n k s = .error r) : r = .exhausted ∨ r = .timing := by
  obtain ⟨_, -, hj, -⟩ := decodeBits_error h
  exact examineBit_error hj

/-- `Ending s t`: from `s` an operation ended in `t`, by one of the three outcomes of 00_scope.md R8. The state `u` that is
answered in the first two has the ST and the CFGCAUSE of `s` still. -/
inductive Ending (s : State) : State → Prop
  | done (u : State) (dup : Bool) (hst : u.st = s.st) (hc : u.cfgCause = s.cfgCause) :
      Ending s (setAnswer true dup .none u)
  | reject (u : State) (r : Reason) (hr : r ≠ .none) (hst : u.st = s.st) (hc : u.cfgCause = s.cfgCause) :
      Ending s (setAnswer false false r u)
  | configFault (c : Cause) : Ending s (markConfigFault c s)

/-- Whatever an operation answers is one of the three endings. -/
theorem Answers.ending {i : Instr} {s t : State} (h : Answers i s t) : Ending s t := by
  cases h with
  | configFault => exact .configFault _
  | band | bandclr | classifyHit | classifypHit | gateIn | chksum | rxchkOk | emitRelease | emitRecord | consume
  | dedupOld | dedupNew | txbuild => exact .done _ _ rfl rfl
  | classifyMiss | classifypMiss | gateOut | rxchkHeader | rxchkChecksum | txsendToken =>
    exact .reject _ _ (by decide) rfl rfl
  | decodeOk nbits count start smin smax lmin lmax s t hn hc h =>
    have ht := decodeBits_frame h
    exact .done _ _ (by rw [ht]; rfl) (by rw [ht]; rfl)
  | decodeBad nbits count start smin smax lmin lmax s r hn hc h =>
    have hr : r ≠ .none := by
      rcases decodeBits_error_reason h with rfl | rfl <;> decide
    exact .reject _ _ hr rfl rfl
  | txframe => exact .done _ _ (by rw [emitFrame_frame]) (by rw [emitFrame_frame])
  | txsendStop => exact .done _ _ (by rw [emitSequence_frame]; rfl) (by rw [emitSequence_frame]; rfl)
  | txsendSustained =>
    exact .done _ _ (by rw [emitRelease_frame, emitSequence_frame]; rfl)
      (by rw [emitRelease_frame, emitSequence_frame]; rfl)

end Sys2Proof.Machine

namespace Sys2Proof.Claims

open Machine

/-- An operation that answers the state `u` ends with `u`, if `u` has the ST the operation began with. -/
theorem ends_of_setAnswer {i : Instr} {s u : State} {ok dup : Bool} {r : Reason}
    (h : exec i s = .next (setAnswer ok dup r u)) (hst : u.st = s.st) : Ends i s u ok dup r.code :=
  ⟨_, h, rfl, by simp, by simp, by simp, by simp [State.cfgErr, hst], by simp [hst]⟩

/-- The model's mark is the effect 60_exceptions.md R246 gives a ConfigFault. -/
theorem faults_of_markConfigFault {i : Instr} {s : State} {c : Cause} (h : exec i s = .next (markConfigFault c s)) :
    Faults i s c.code :=
  ⟨_, h, rfl, by simp⟩

end Sys2Proof.Claims

namespace Sys2Proof

open Machine Claims

/-- Settles O10, by cases on the ending of the operation's answer. -/
theorem everyOperationEndsInOneOfThreeOutcomes : Obligations.EveryOperationEndsInOneOfThreeOutcomes := by
  intro i s
  obtain ⟨t, he, ha⟩ := exec_answers i s
  cases ha.ending with
  | done u dup hst hc => exact .inl ⟨u, dup, hc, ends_of_setAnswer he hst⟩
  | reject u r hr hst hc =>
    exact .inr (.inl ⟨u, r.code, hc, r.code_pos hr, Nat.le_of_lt_succ r.code_lt, ends_of_setAnswer he hst⟩)
  | configFault c =>
    exact .inr (.inr ⟨c.code, c.code_pos, Nat.le_of_lt_succ c.code_lt, faults_of_markConfigFault he⟩)

end Sys2Proof
end

section
/-! The step by cases on the next input, and what it appends to the histories TRACE and EVENTS (00_scope.md R9). -/

namespace Sys2Proof.Machine

/-- The inversion of a step: one case per kind of next input (20_memory.md R68), and the wait. -/
theorem step_cases {s t : State} (h : step s = .next t) :
    (s.pending = [] ∧ t = s) ∨
    (∃ cw rest, s.pending = .op cw :: rest ∧ exec (decode cw) { s with pending := rest } = .next t) ∨
    (∃ c rest, s.pending = .capture c :: rest ∧ c.legal = true ∧ t = applyCapture c { s with pending := rest }) ∨
    (∃ rest, s.pending = .reset :: rest ∧ t = resetNow { s with pending := rest }) := by
  unfold step takeInput at h
  rcases hp : s.pending with _ | ⟨x, rest⟩ <;> rw [hp] at h
  · cases h
    exact .inl ⟨rfl, rfl⟩
  · cases x with
    | op cw => exact .inr (.inl ⟨cw, rest, rfl, h⟩)
    | capture c =>
      simp only [perform, capture] at h
      split at h
      · cases h
        exact .inr (.inr (.inl ⟨c, rest, rfl, ‹_›, rfl⟩))
      · cases h
    | reset =>
      cases h
      exact .inr (.inr (.inr ⟨rest, rfl, rfl⟩))

/-- `HistoriesExtend s t`: `t` has the histories of `s` with segments that have a length and records that are no Release
appended (00_scope.md R9, 42_frame_check.md R157). -/
structure HistoriesExtend (s t : State) : Prop where
  trace : ∃ xs, (∀ x ∈ xs, 0 < x.us) ∧ t.trace = s.trace ++ xs
  events : ∃ rs, (∀ r ∈ rs, r.cmd ≠ Command.release.code) ∧ t.events = s.events ++ rs

theorem HistoriesExtend.of_eq {s t : State} (ht : t.trace = s.trace) (he : t.events = s.events) : HistoriesExtend s t :=
  ⟨⟨[], by simp, by simp [ht]⟩, ⟨[], by simp, by simp [he]⟩⟩

theorem HistoriesExtend.trans {s t u : State} (h : HistoriesExtend s t) (h' : HistoriesExtend t u) :
    HistoriesExtend s u := by
  obtain ⟨⟨xs, hxs, ht⟩, rs, hrs, he⟩ := h
  obtain ⟨⟨ys, hys, ht'⟩, ps, hps, he'⟩ := h'
  exact ⟨⟨xs ++ ys, List.forall_mem_append.2 ⟨hxs, hys⟩, by rw [ht', ht, List.append_assoc]⟩,
    ⟨rs ++ ps, List.forall_mem_append.2 ⟨hrs, hps⟩, by rw [he', he, List.append_assoc]⟩⟩

/-- The old histories begin the new ones. -/
theorem HistoriesExtend.isPrefix {s t : State} (h : HistoriesExtend s t) : s.trace <+: t.trace ∧ s.events <+: t.events := by
  obtain ⟨⟨xs, -, ht⟩, rs, -, he⟩ := h
  exact ⟨⟨xs, ht.symm⟩, rs, he.symm⟩

/-- Legal histories stay legal under extension. -/
theorem HistoriesExtend.inv {s t : State} (h : HistoriesExtend s t) (hs : HistoryInv s) : HistoryInv t := by
  obtain ⟨⟨xs, hxs, ht⟩, rs, hrs, he⟩ := h
  constructor
  · rw [ht]
    exact List.forall_mem_append.2 ⟨hs.trace, hxs⟩
  · rw [he]
    exact List.forall_mem_append.2 ⟨hs.events, hrs⟩

/-! ## What appends to TRACE and EVENTS -/

theorem drive_historiesExtend (xs : List Segment) (s : State) : HistoriesExtend s (drive xs s) := by
  rw [drive_eq]
  exact ⟨⟨xs.filter fun y => decide (0 < y.us), by simp, rfl⟩, ⟨[], by simp, by simp⟩⟩

theorem emitBare_historiesExtend (t : Config.TxTiming) (n : Nat) (s : State) : HistoriesExtend s (emitBare t n s) := by
  induction n generalizing s with
  | zero => exact .of_eq rfl rfl
  | succ n ih => exact (drive_historiesExtend _ s).trans (ih _)

theorem emitSequence_historiesExtend (t : Config.TxTiming) (primed : Bool) (n : Nat) (s : State) :
    HistoriesExtend s (emitSequence t primed n s) :=
  (drive_historiesExtend _ s).trans (emitBare_historiesExtend t n _)

theorem buildFrame_historiesExtend (id : BitVec 24) (node : BitVec 8) (code : BitVec 16) (s : State) :
    HistoriesExtend s (buildFrame id node code s) :=
  .of_eq rfl rfl

theorem emitRelease_historiesExtend (t : Config.TxTiming) (codes : Config.CmdCodes) (id : BitVec 24) (node : BitVec 8)
    (s : State) : HistoriesExtend s (emitRelease t codes id node s) := by
  have delay : HistoriesExtend s (seg ⟨false, t.tReleaseDelay⟩ s) := drive_historiesExtend [⟨false, t.tReleaseDelay⟩] s
  exact (delay.trans (buildFrame_historiesExtend ..)).trans (emitSequence_historiesExtend ..)

theorem emitRecord_historiesExtend {r : EventRecord} (h : r.cmd ≠ Command.release.code) (s : State) :
    HistoriesExtend s (emitRecord r s) :=
  ⟨⟨[], by simp, by simp⟩, ⟨[r], by simpa using h, rfl⟩⟩

/-- ST is no history. -/
theorem HistoriesExtend.setAnswer {s u : State} (h : HistoriesExtend s u) (ok dup : Bool) (r : Reason) :
    HistoriesExtend s (setAnswer ok dup r u) :=
  h.trans (.of_eq rfl rfl)

/-- Every operation extends the histories: TXFRAME and TXSEND drive segments, EMIT appends a record, the rest write
neither. -/
theorem Answers.historiesExtend {i : Instr} {s t : State} (h : Answers i s t) : HistoriesExtend s t := by
  cases h with
  | configFault | band | bandclr | classifyHit | classifyMiss | classifypHit | classifypMiss | decodeBad | gateIn | gateOut
  | chksum | rxchkHeader | rxchkChecksum | rxchkOk | emitRelease | consume | dedupOld | dedupNew | txbuild | txsendToken =>
    exact .of_eq rfl rfl
  | decodeOk nbits count start smin smax lmin lmax s t hn hc h =>
    have ht := decodeBits_frame h
    exact .of_eq (by rw [ht]; rfl) (by rw [ht]; rfl)
  | emitRecord proto s hv h => exact (emitRecord_historiesExtend h s).setAnswer _ _ _
  | txframe => exact (drive_historiesExtend _ _).setAnswer _ _ _
  | txsendStop =>
    exact ((buildFrame_historiesExtend ..).trans (emitSequence_historiesExtend ..)).setAnswer _ _ _
  | txsendSustained =>
    exact (((buildFrame_historiesExtend ..).trans (emitSequence_historiesExtend ..)).trans
      (emitRelease_historiesExtend ..)).setAnswer _ _ _

/-- A step is a reset or extends the histories. -/
theorem step_reset_or_historiesExtend {s t : State} (h : step s = .next t) :
    (∃ rest, s.pending = .reset :: rest ∧ t = resetNow { s with pending := rest }) ∨ HistoriesExtend s t := by
  rcases step_cases h with ⟨-, rfl⟩ | ⟨cw, rest, -, he⟩ | ⟨c, rest, -, -, rfl⟩ | hreset
  · exact .inr (.of_eq rfl rfl)
  · have take := HistoriesExtend.of_eq (s := s) (t := { s with pending := rest }) rfl rfl
    exact .inr (take.trans (answers_of_exec he).historiesExtend)
  · exact .inr (.of_eq rfl rfl)
  · exact .inl hreset

theorem resetNow_historyInv (s : State) : HistoryInv (resetNow s) :=
  ⟨fun _ hx => absurd hx List.not_mem_nil, fun _ hr => absurd hr List.not_mem_nil⟩

end Sys2Proof.Machine

namespace Sys2Proof

open Machine

/-- Settles O48: a step that is no reset extends the histories. -/
theorem historiesOnlyGrow : Obligations.HistoriesOnlyGrow := by
  intro s t hnot h
  rcases step_reset_or_historiesExtend h with ⟨rest, hp, -⟩ | hext
  · exact absurd hp (hnot rest)
  · exact hext.isPrefix

/-- Settles O54: a reset empties the histories, and what any other step appends is legal. -/
theorem stepKeepsHistoriesLegal : Obligations.StepKeepsHistoriesLegal := by
  intro s t hs h
  rcases step_reset_or_historiesExtend h with ⟨rest, -, rfl⟩ | hext
  · exact resetNow_historyInv _
  · exact hext.inv hs

end Sys2Proof
end

section
/-! What a reset leaves: the table of 10_state.md R37, and the invariants. Everything is said of `resetNow`, the reset as a
step performs it; `State.resetAt` and `State.reset` are such states. -/

namespace Sys2Proof.Machine

theorem step_of_reset {s : State} {rest : List Input} (h : s.pending = .reset :: rest) :
    step s = .next (resetNow { s with pending := rest }) := by
  rw [step, takeInput, h]
  rfl

/-- The state after a reset of any draw is what a reset step makes of some state with no input pending. -/
theorem resetAt_eq_resetNow (n : Nat) : State.resetAt n = resetNow { State.reset with draws := n } := rfl

theorem reset_eq_resetNow : State.reset = resetNow { State.reset with draws := 0 } := rfl

theorem band_resetNow_v (s : State) (i : Fin 4) : (band (resetNow s) i).v = false := by
  match i with
  | 0 | 1 | 2 | 3 => rfl

/-- The values 10_state.md R37's table gives. -/
def HasResetTable (t : State) : Prop :=
  t.st = 0x00 ∧ t.cfgCause = 0 ∧ t.multiply = 0 ∧ t.number = 0 ∧ t.repeats = false ∧ (∀ i, (band t i).v = false) ∧
    t.matchReg = 4 ∧ t.fbBits = 0 ∧ t.rxValid = false ∧ t.fpValid = false ∧ t.txfValid = false ∧ t.line = false ∧
    t.trace = [] ∧ t.events = []

theorem resetNow_hasResetTable (s : State) : HasResetTable (resetNow s) :=
  ⟨rfl, rfl, rfl, rfl, rfl, band_resetNow_v s, rfl, rfl, rfl, rfl, rfl, rfl, rfl, rfl⟩

/-- RXCMD is unspecified after a reset, but no reserved code (30_encoding.md R88; log 9). -/
theorem resetNow_rxCmd_lt (s : State) : (resetNow s).rxCmd.toNat < 5 :=
  calc (BitVec.ofNat 3 (Config.resetRxCmd s.draws).val).toNat
    _ = (Config.resetRxCmd s.draws).val % 2 ^ 3 := BitVec.toNat_ofNat _ _
    _ ≤ (Config.resetRxCmd s.draws).val := Nat.mod_le _ _
    _ < 5 := (Config.resetRxCmd s.draws).isLt

theorem resetNow_registerInv (s : State) : RegisterInv (resetNow s) where
  reserved := show statusReserved 0x00 = 0 by decide
  reason := show (statusReason 0x00).toNat < 7 by decide
  okReason := fun _ => show statusReason 0x00 = 0 by decide
  dupOk := fun h => absurd h (show ¬ statusDup 0x00 = true by decide)
  cause := show (0#4).toNat < 7 by decide
  causeMark := iff_of_true (show statusCfgErr 0x00 = false by decide) rfl
  matchCode := show (4#3).toNat < 5 by decide
  rxCmdCode := resetNow_rxCmd_lt s
  number := Nat.zero_le _
  fbBits := Nat.zero_le _
  bands := fun i hv => by
    rw [band_resetNow_v] at hv
    cases hv
  line := rfl

theorem Memory.wf_nil {w : Nat} (size : Nat) : Memory.wf size ([] : Memory w) :=
  ⟨.nil, nofun⟩

/-- Nothing is written in the memories after a reset. -/
theorem resetNow_memoryInv (s : State) : MemoryInv (resetNow s) :=
  ⟨Memory.wf_nil _, Memory.wf_nil _, Memory.wf_nil _⟩

/-- After a reset no guard is up, so none promises anything. -/
theorem resetNow_guardInv (s : State) : GuardInv (resetNow s) where
  fbTail := fun hbits => absurd rfl hbits
  txfHeader := nofun
  txfSum := nofun
  txfTrailer := nofun
  rxMapped := nofun

end Sys2Proof.Machine

namespace Sys2Proof

open Machine

/-- Settles O9: a reset step answers `resetNow`, which has the table, and `State.reset` is such a state. -/
theorem resetLeavesTheResetTable : Obligations.ResetLeavesTheResetTable :=
  ⟨fun _ _ h => ⟨_, step_of_reset h, rfl, resetNow_hasResetTable _⟩, reset_eq_resetNow ▸ resetNow_hasResetTable _⟩

/-- Settles O50. -/
theorem resetRegistersAreLegal : Obligations.ResetRegistersAreLegal := by
  intro n
  rw [resetAt_eq_resetNow]
  exact resetNow_registerInv _

/-- Settles O52. -/
theorem resetMemoriesAreCanonical : Obligations.ResetMemoriesAreCanonical := by
  rw [Obligations.ResetMemoriesAreCanonical, reset_eq_resetNow]
  exact resetNow_memoryInv _

/-- Settles O55. -/
theorem resetGuardsAndHistoriesHold : Obligations.ResetGuardsAndHistoriesHold := by
  rw [Obligations.ResetGuardsAndHistoriesHold, reset_eq_resetNow]
  exact ⟨resetNow_guardInv _, resetNow_historyInv _⟩

end Sys2Proof
end

section
/-! The ConfigFault mark and its cause: no ending of an operation, and no step but a reset, clears them
(10_state.md R21, R30; 60_exceptions.md R246). -/

namespace Sys2Proof.Machine

/-- `done` and `reject` keep CFGERR and CFGCAUSE, a second ConfigFault keeps the first cause. -/
theorem Ending.keepsMark {s t : State} (h : Ending s t) (hs : s.cfgErr = true) :
    t.cfgErr = true ∧ t.cfgCause = s.cfgCause := by
  have answer (u : State) (ok dup : Bool) (r : Reason) (hst : u.st = s.st) (hc : u.cfgCause = s.cfgCause) :
      (setAnswer ok dup r u).cfgErr = true ∧ (setAnswer ok dup r u).cfgCause = s.cfgCause := by
    have hu : u.cfgErr = s.cfgErr := congrArg statusCfgErr hst
    exact ⟨by rw [setAnswer_cfgErr, hu, hs], hc⟩
  cases h with
  | done u dup hst hc => exact answer u _ _ _ hst hc
  | reject u r hr hst hc => exact answer u _ _ _ hst hc
  | configFault c => exact ⟨markConfigFault_cfgErr c s, by rw [markConfigFault_cfgCause, if_pos hs]⟩

end Sys2Proof.Machine

namespace Sys2Proof

open Machine

/-- Settles O11, by cases on the step's input: waiting and CAPTURE write neither register. -/
theorem configFaultMarkLastsUntilReset : Obligations.ConfigFaultMarkLastsUntilReset := by
  intro s t hs hnot h
  rcases step_cases h with ⟨-, rfl⟩ | ⟨cw, rest, -, he⟩ | ⟨c, rest, -, -, rfl⟩ | ⟨rest, hp, -⟩
  · exact ⟨hs, rfl⟩
  · exact (answers_of_exec he).ending.keepsMark hs
  · exact ⟨hs, rfl⟩
  · exact absurd hp (hnot rest)

end Sys2Proof
end

section
/-! Which memories and histories an operation writes (10_state.md R31, R32; 20_memory.md R60). -/

namespace Sys2Proof.Machine

open Claims

/-- `MemoryFrame i s t`: `t` differs from `s` in the memories and histories that `i` writes at most. `epoch`, which fixes what
an unwritten element reads as (log 7), stays. -/
structure MemoryFrame (i : Instr) (s t : State) : Prop where
  pulse : t.pulse = s.pulse
  epoch : t.epoch = s.epoch
  pending : t.pending = s.pending
  fb : writesFb i = false → t.fb = s.fb
  txf : writesTxf i = false → t.txf = s.txf
  trace : drivesLine i = false → t.trace = s.trace
  events : emitsRecord i = false → t.events = s.events

/-- Where no memory and no history changed, nothing is left to ask of the operation. -/
theorem MemoryFrame.of_eq (i : Instr) {s t : State} (hpulse : t.pulse = s.pulse) (hepoch : t.epoch = s.epoch)
    (hpending : t.pending = s.pending) (hfb : t.fb = s.fb) (htxf : t.txf = s.txf) (htrace : t.trace = s.trace)
    (hevents : t.events = s.events) : MemoryFrame i s t :=
  ⟨hpulse, hepoch, hpending, fun _ => hfb, fun _ => htxf, fun _ => htrace, fun _ => hevents⟩

/-- By cases on what was answered: DECODE writes FB, EMIT appends to EVENTS, TXBUILD writes TXF, TXFRAME drives the line,
TXSEND does the last two; every other answer writes registers alone. -/
theorem Answers.memoryFrame {i : Instr} {s t : State} (h : Answers i s t) : MemoryFrame i s t := by
  cases h with
  | configFault | band | bandclr | classifyHit | classifyMiss | classifypHit | classifypMiss | gateIn | gateOut | chksum
  | rxchkHeader | rxchkChecksum | rxchkOk | emitRelease | consume | dedupOld | dedupNew | txsendToken =>
    exact .of_eq _ rfl rfl rfl rfl rfl rfl rfl
  | decodeOk nbits count start smin smax lmin lmax s t hn hc h =>
    rw [decodeBits_frame h]
    exact ⟨rfl, rfl, rfl, nofun, fun _ => rfl, fun _ => rfl, fun _ => rfl⟩
  | decodeBad => exact ⟨rfl, rfl, rfl, nofun, fun _ => rfl, fun _ => rfl, fun _ => rfl⟩
  | emitRecord => exact ⟨rfl, rfl, rfl, fun _ => rfl, fun _ => rfl, fun _ => rfl, nofun⟩
  | txbuild => exact ⟨rfl, rfl, rfl, fun _ => rfl, nofun, fun _ => rfl, fun _ => rfl⟩
  | txframe =>
    rw [emitFrame_frame]
    exact ⟨rfl, rfl, rfl, fun _ => rfl, fun _ => rfl, nofun, fun _ => rfl⟩
  | txsendStop =>
    rw [emitSequence_frame]
    exact ⟨rfl, rfl, rfl, fun _ => rfl, nofun, nofun, fun _ => rfl⟩
  | txsendSustained =>
    rw [emitRelease_frame, emitSequence_frame]
    exact ⟨rfl, rfl, rfl, fun _ => rfl, nofun, nofun, fun _ => rfl⟩

/-- A memory and the epoch fix what every element of it reads as. -/
theorem pulseAt_congr {s t : State} (h : t.pulse = s.pulse) (he : t.epoch = s.epoch) (j : Nat) :
    pulseAt t j = pulseAt s j := by
  rw [pulseAt, pulseAt, h, he]

theorem fbAt_congr {s t : State} (h : t.fb = s.fb) (he : t.epoch = s.epoch) (j : Nat) : fbAt t j = fbAt s j := by
  rw [fbAt, fbAt, h, he]

theorem txfAt_congr {s t : State} (h : t.txf = s.txf) (he : t.epoch = s.epoch) (j : Nat) : txfAt t j = txfAt s j := by
  rw [txfAt, txfAt, h, he]

end Sys2Proof.Machine

namespace Sys2Proof

open Machine

/-- Settles O47: each element reads as before, since its memory and the epoch are as before. -/
theorem operationsWriteTheirOwnMemoriesOnly : Obligations.OperationsWriteTheirOwnMemoriesOnly := by
  intro i s t h
  have f := (answers_of_exec h).memoryFrame
  exact ⟨pulseAt_congr f.pulse f.epoch, fun hi => fbAt_congr (f.fb hi) f.epoch, fun hi => txfAt_congr (f.txf hi) f.epoch,
    f.trace, f.events, f.pending⟩

end Sys2Proof
end

section
/-! The step on the next pending input (20_memory.md R68), and on a command word placed by `withFetchWord` (30_encoding.md R80,
R84). -/

namespace Sys2Proof.Machine

/-- A step takes the next input from the list and performs it, with nothing added. -/
theorem step_of_pending {s : State} {x : Input} {rest : List Input} (h : s.pending = x :: rest) :
    step s = perform x { s with pending := rest } := by
  rw [step, takeInput, h]

theorem step_present (cw : CommandWord) (s : State) : step (present cw s) = exec (decode cw) s := rfl

/-- A row of all 128 bits is its word as it stands. -/
theorem tableWord_full {w : Nat} (h : w < 2 ^ 128) : tableWord 128 w = BitVec.ofNat 128 w := by
  rw [tableWord, Nat.mod_eq_of_lt h]

end Sys2Proof.Machine

namespace Sys2Proof

open Machine

/-- Settles O6: the placed word is the pending input, and its table word is the word itself. -/
theorem stepRunsTheDecodedOperation : Obligations.StepRunsTheDecodedOperation := by
  refine ⟨fun s cw rest h => step_of_pending h, fun s w hw => ⟨?_, ?_⟩⟩
  · rw [State.withFetchWord, step_present, tableWord_full hw]
  · rw [decodeTableWord, if_pos (Nat.le_refl 128), tableWord_full hw]

end Sys2Proof
end

section
/-! The CAPTURE step: what the capture layer may write, and what its writes leave (20_memory.md R66; log 4). -/

namespace Sys2Proof.Machine

/-- The test of a CAPTURE is R66's write set. -/
theorem Capture.legal_iff (c : Capture) :
    c.legal = true ↔
      (∀ p ∈ c.pulses, p.1 < Config.pulseMax) ∧ ∀ n, c.number = some n → n.toNat ≤ Config.pulseMax := by
  simp [Capture.legal, Option.all_eq_true]

theorem step_of_capture {s : State} {c : Capture} {rest : List Input} (h : s.pending = .capture c :: rest)
    (hc : c.legal = true) : step s = .next (applyCapture c { s with pending := rest }) :=
  (step_of_pending h).trans (if_pos hc)

theorem step_of_illegal_capture {s : State} {c : Capture} {rest : List Input} (h : s.pending = .capture c :: rest)
    (hc : ¬ c.legal = true) : step s = .fault .captureOutOfRange :=
  (step_of_pending h).trans (if_neg hc)

/-- Of several writes to an element the last one counts. -/
theorem Memory.read?_foldl_write_last {w : Nat} (ps qs : List (Nat × BitVec w)) (m : Memory w) {i : Nat} (v : BitVec w)
    (h : i ∉ qs.map Prod.fst) :
    Memory.read? ((ps ++ (i, v) :: qs).foldl (fun m p => Memory.write m p.1 p.2) m) i = some v := by
  rw [List.foldl_append, List.foldl_cons, Memory.read?_foldl_write_other qs _ h, Memory.read?_write_same]

/-- A CAPTURE leaves every element of PULSE it does not name alone. -/
theorem pulseAt_applyCapture_other {c : Capture} {i : Nat} (h : i ∉ c.pulses.map Prod.fst) (s : State) :
    pulseAt (applyCapture c s) i = pulseAt s i := by
  rw [pulseAt, applyCapture, Memory.read?_foldl_write_other _ _ h, pulseAt]

theorem pulseAt_applyCapture_last {c : Capture} {ps qs : List (Nat × Sample)} {i : Nat} {v : Sample}
    (hc : c.pulses = ps ++ (i, v) :: qs) (h : i ∉ qs.map Prod.fst) (s : State) : pulseAt (applyCapture c s) i = v := by
  rw [pulseAt, applyCapture, hc, Memory.read?_foldl_write_last ps qs _ v h, Option.getD_some]

end Sys2Proof.Machine

namespace Sys2Proof

open Machine

/-- Settles O8: inside the write set the step answers `applyCapture`, whose other fields are untouched by its definition;
outside, the test of the CAPTURE fails. -/
theorem captureWritesItsOwnStateOnly : Obligations.CaptureWritesItsOwnStateOnly := by
  refine ⟨fun s c rest hpend hpulses hnumber => ?_, fun s c rest hpend hout => step_of_illegal_capture hpend fun hc => ?_⟩
  · exact ⟨_, step_of_capture hpend (c.legal_iff.2 ⟨hpulses, hnumber⟩), rfl,
      fun i hi => pulseAt_applyCapture_other hi _, fun ps qs i v hc hi => pulseAt_applyCapture_last hc hi _⟩
  · obtain ⟨hpulses, hnumber⟩ := c.legal_iff.1 hc
    rcases hout with ⟨p, hp, hge⟩ | ⟨n, hn, hgt⟩
    · exact absurd (hpulses p hp) (Nat.not_lt.2 hge)
    · exact absurd (hnumber n hn) (Nat.not_le.2 hgt)

end Sys2Proof
end

section
/-! The canonical form of PULSE, FB and TXF (10_state.md R31; log 15): each write of a memory keeps it, so every operation and
every step does. -/

namespace Sys2Proof.Machine

theorem clearFb_fb_wf (s : State) : Memory.wf Config.frameMax (clearFb s).fb :=
  Memory.ofList_wf _ (by rw [List.length_replicate])

theorem forgetFb_fb_wf (s : State) : Memory.wf Config.frameMax (forgetFb s).fb :=
  Memory.ofList_wf _ (by rw [List.length_map, List.length_range])

/-- A frame has as many bytes as TXF has elements. -/
theorem frameBytes_wf (id : BitVec 24) (node : BitVec 8) (code : BitVec 16) :
    Memory.wf Config.txFrameBytes (Memory.ofList (frameBytes id node code)) :=
  Memory.ofList_wf _ (Nat.le_refl 9)

/-- By cases on what was answered: DECODE writes FB whole and then bits inside it, TXBUILD and TXSEND write TXF whole, and no
operation writes PULSE. -/
theorem Answers.memoryInv {i : Instr} {s t : State} (h : Answers i s t) (hs : MemoryInv s) : MemoryInv t := by
  obtain ⟨hpulse, hfb, htxf⟩ := hs
  cases h with
  | configFault | band | bandclr | classifyHit | classifyMiss | classifypHit | classifypMiss | gateIn | gateOut | chksum
  | rxchkHeader | rxchkChecksum | rxchkOk | emitRelease | emitRecord | consume | dedupOld | dedupNew | txsendToken =>
    exact ⟨hpulse, hfb, htxf⟩
  | decodeOk nbits count start smin smax lmin lmax s u hn hc h =>
    have hu : Memory.wf Config.frameMax u.fb := decodeBits_wf h (clearFb_fb_wf s) hn
    rw [decodeBits_frame h]
    exact ⟨hpulse, hu, htxf⟩
  | decodeBad => exact ⟨hpulse, forgetFb_fb_wf s, htxf⟩
  | txbuild id node code => exact ⟨hpulse, hfb, frameBytes_wf id node code⟩
  | txframe =>
    rw [emitFrame_frame]
    exact ⟨hpulse, hfb, htxf⟩
  | txsendStop id node token code =>
    rw [emitSequence_frame]
    exact ⟨hpulse, hfb, frameBytes_wf id node code⟩
  | txsendSustained id node =>
    rw [emitRelease_frame, emitSequence_frame]
    exact ⟨hpulse, hfb, frameBytes_wf id node Config.cmdCodes.release⟩

/-- A CAPTURE inside its write set writes elements PULSE has. -/
theorem applyCapture_memoryInv {c : Capture} (hc : c.legal = true) {s : State} (hs : MemoryInv s) :
    MemoryInv (applyCapture c s) :=
  ⟨Memory.foldl_write_wf c.pulses hs.pulse (c.legal_iff.1 hc).1, hs.fb, hs.txf⟩

end Sys2Proof.Machine

namespace Sys2Proof

open Machine

/-- Settles O51, by cases on the step's input. -/
theorem stepKeepsMemoriesCanonical : Obligations.StepKeepsMemoriesCanonical := by
  intro s t hs h
  have htake (rest : List Input) : MemoryInv { s with pending := rest } := ⟨hs.pulse, hs.fb, hs.txf⟩
  rcases step_cases h with ⟨-, rfl⟩ | ⟨cw, rest, -, he⟩ | ⟨c, rest, -, hc, rfl⟩ | ⟨rest, -, rfl⟩
  · exact hs
  · exact (answers_of_exec he).memoryInv (htake rest)
  · exact applyCapture_memoryInv hc (htake rest)
  · exact resetNow_memoryInv _

end Sys2Proof
end

section
/-! Command words bit by bit: what is read of a packed word (30_encoding.md R80, R81), and of two words that agree from some bit
upwards (R84). -/

namespace Sys2Proof

/-- The number a list of fields stands for, before it is cut to a command word. -/
def fieldSum (fields : List (Nat × Nat)) : Nat := (fields.map fun f => 2 ^ f.2 * f.1).sum

theorem packWord_eq (fields : List (Nat × Nat)) : packWord fields = BitVec.ofNat 128 (fieldSum fields) := rfl

theorem fieldSum_cons (v q : Nat) (rest : List (Nat × Nat)) : fieldSum ((v, q) :: rest) = 2 ^ q * v + fieldSum rest := rfl

/-- The fields lie below bit `p` one below the other, as R81 packs them. -/
def FieldsBelow : Nat → List (Nat × Nat) → Prop
  | _, [] => True
  | p, (v, q) :: rest => 2 ^ q * (v + 1) ≤ 2 ^ p ∧ FieldsBelow q rest

theorem fieldsBelow_nil (p : Nat) : FieldsBelow p [] := trivial

theorem fieldsBelow_cons {w p q : Nat} (v : BitVec w) (rest : List (Nat × Nat)) (hq : q + w ≤ p) :
    FieldsBelow p ((v.toNat, q) :: rest) ↔ FieldsBelow q rest := by
  refine and_iff_right ?_
  calc 2 ^ q * (v.toNat + 1)
    _ ≤ 2 ^ q * 2 ^ w := Nat.mul_le_mul_left _ v.isLt
    _ = 2 ^ (q + w) := (Nat.pow_add 2 q w).symm
    _ ≤ 2 ^ p := Nat.pow_le_pow_right Nat.two_pos hq

theorem FieldsBelow.fieldSum_lt {p : Nat} {fields : List (Nat × Nat)} (h : FieldsBelow p fields) :
    fieldSum fields < 2 ^ p := by
  induction fields generalizing p with
  | nil => exact Nat.two_pow_pos p
  | cons f rest ih =>
    obtain ⟨hf, hrest⟩ := h
    calc 2 ^ f.2 * f.1 + fieldSum rest
      _ < 2 ^ f.2 * f.1 + 2 ^ f.2 := Nat.add_lt_add_left (ih hrest) _
      _ ≤ 2 ^ p := hf

/-- A field that lies below the topmost one is read of the other fields. -/
theorem extractLsb'_packWord_tail {p w q : Nat} (v : Nat) (rest : List (Nat × Nat)) (h : p + w ≤ q) :
    (packWord ((v, q) :: rest)).extractLsb' p w = (packWord rest).extractLsb' p w := by
  have hmod : (2 ^ q * v + fieldSum rest) % 2 ^ q = fieldSum rest % 2 ^ q := Nat.mul_add_mod ..
  refine BitVec.eq_of_getLsbD_eq fun i hi => ?_
  have hbit := congrArg (Nat.testBit · (p + i)) hmod
  simp only [Nat.testBit_mod_two_pow, show p + i < q by omega, decide_true, Bool.true_and] at hbit
  simp only [packWord_eq, fieldSum_cons, BitVec.getLsbD_extractLsb', BitVec.getLsbD_ofNat, hbit]

/-- The topmost field is read as it was packed, if the other fields lie below it. -/
theorem extractLsb'_packWord_head {p w : Nat} (v : Nat) {rest : List (Nat × Nat)} (hp : p + w ≤ 128)
    (h : FieldsBelow p rest) : (packWord ((v, p) :: rest)).extractLsb' p w = BitVec.ofNat w v := by
  refine BitVec.eq_of_getLsbD_eq fun i hi => ?_
  have hbit : (2 ^ p * v + fieldSum rest).testBit (p + i) = v.testBit i := by
    simp [Nat.testBit_two_pow_mul_add v h.fieldSum_lt]
  simp only [packWord_eq, fieldSum_cons, BitVec.getLsbD_extractLsb', BitVec.getLsbD_ofNat, hbit, hi,
    show p + i < 128 by omega, decide_true, Bool.true_and]

/-- Two words that agree from bit `u` upwards. -/
def AgreeFrom (u : Nat) (cw cw' : CommandWord) : Prop := cw'.toNat / 2 ^ u = cw.toNat / 2 ^ u

theorem AgreeFrom.getLsbD {u j : Nat} {cw cw' : CommandWord} (h : AgreeFrom u cw cw') (hj : u ≤ j) :
    cw'.getLsbD j = cw.getLsbD j := by
  obtain ⟨k, rfl⟩ := Nat.exists_eq_add_of_le hj
  have hbit := congrArg (Nat.testBit · k) h
  simpa only [Nat.testBit_div_two_pow, BitVec.testBit_toNat, Nat.add_comm k u] using hbit

theorem AgreeFrom.extractLsb' {u p w : Nat} {cw cw' : CommandWord} (h : AgreeFrom u cw cw') (hp : u ≤ p) :
    cw'.extractLsb' p w = cw.extractLsb' p w :=
  BitVec.eq_of_getLsbD_eq fun i hi => by
    rw [BitVec.getLsbD_extractLsb', BitVec.getLsbD_extractLsb', h.getLsbD (Nat.le_add_right_of_le hp)]

end Sys2Proof
end

section
/-! The decoder by select code, and the encoder as its inverse (30_encoding.md R80 to R84). -/

namespace Sys2Proof

open Claims

theorem selectCode_toNat (cw : CommandWord) : (selectCode cw).toNat = cw.toNat / 2 ^ 124 := by
  have hcw : cw.toNat < 2 ^ 128 := cw.isLt
  rw [selectCode, BitVec.extractLsb'_toNat, Nat.shiftRight_eq_div_pow, Nat.mod_eq_of_lt (by omega)]

/-- The laws of the single operations' encodings, for any operation. -/
theorem encode_select_unused (i : Instr) : Laws.Select.Statement i := by
  cases i with
  | band => exact Laws.Select.band ..
  | bandclr => exact Laws.Select.bandclr ..
  | classify => exact Laws.Select.classify ..
  | classifyp => exact Laws.Select.classifyp ..
  | decode => exact Laws.Select.decode ..
  | gate => exact Laws.Select.gate ..
  | chksum => exact Laws.Select.chksum ..
  | rxchk => exact Laws.Select.rxchk
  | emit => exact Laws.Select.emit ..
  | consume => exact Laws.Select.consume ..
  | dedup => exact Laws.Select.dedup ..
  | txbuild => exact Laws.Select.txbuild ..
  | txframe => exact Laws.Select.txframe ..
  | txsend => exact Laws.Select.txsend ..
  | reserved0 => exact Laws.Select.reserved0
  | reservedF => exact Laws.Select.reservedF

/-- The encoded select code picks the operation's line of the decoder, and each operand is the field that line reads. -/
theorem decode_encode (i : Instr) : decode (encode i) = i := by
  obtain ⟨hsel, -⟩ := encode_select_unused i
  rw [decode, hsel]
  cases i with
  | band | bandclr | classify | classifyp | decode | gate | chksum | emit | dedup | txbuild | txsend =>
    simp [encode, Laws.Select.code, extractLsb'_packWord_tail, extractLsb'_packWord_head, fieldsBelow_cons, fieldsBelow_nil]
  | consume flag | txframe flag => cases flag <;> decide
  | rxchk | reserved0 | reservedF => rfl

/-- The decoder has one line per select code. -/
theorem selectOf_decode (cw : CommandWord) : selectOf (decode cw) = cw.toNat / 2 ^ 124 := by
  rw [← selectCode_toNat]
  have hlt : (selectCode cw).toNat < 16 := (selectCode cw).isLt
  unfold decode
  generalize (selectCode cw).toNat = n at hlt ⊢
  interval_cases n <;> rfl

theorem unusedBits_le (i : Instr) : unusedBits i ≤ 124 := by
  cases i <;> simp [unusedBits]

/-- Each line of the decoder reads bits from its operation's unused ones upwards only. -/
theorem decode_eq_of_agreeFrom {cw cw' : CommandWord} (h : AgreeFrom (unusedBits (decode cw)) cw cw') :
    decode cw' = decode cw := by
  have hsel : selectCode cw' = selectCode cw := h.extractLsb' (unusedBits_le _)
  have hlt : (selectCode cw).toNat < 16 := (selectCode cw).isLt
  unfold decode at h ⊢
  rw [hsel]
  generalize (selectCode cw).toNat = n at hlt h ⊢
  interval_cases n <;> simp only [unusedBits] at h
  all_goals simp (disch := decide) only [h.extractLsb', h.getLsbD]

theorem decode_eq_reserved0_iff (cw : CommandWord) : decode cw = .reserved0 ↔ cw.toNat / 2 ^ 124 = 0 := by
  rw [← selectOf_decode]
  cases decode cw <;> simp [selectOf]

theorem decode_eq_reservedF_iff (cw : CommandWord) : decode cw = .reservedF ↔ cw.toNat / 2 ^ 124 = 15 := by
  rw [← selectOf_decode]
  cases decode cw <;> simp [selectOf]

/-- Settles O1. -/
theorem encodedOperationDecodesToItself : Obligations.EncodedOperationDecodesToItself := decode_encode

/-- Settles O2: the decoder reads no unused bit, the encoder packs none, and its lines are the select codes. -/
theorem unusedBitsNeverMatter : Obligations.UnusedBitsNeverMatter :=
  ⟨fun _ _ h => decode_eq_of_agreeFrom h, fun i => (encode_select_unused i).2, selectOf_decode⟩

/-- Settles O3, by running the decoder on the six words. -/
theorem wordsOfTheVectorsDecode : Obligations.WordsOfTheVectorsDecode := by
  unfold Obligations.WordsOfTheVectorsDecode
  decide

end Sys2Proof
end

section
/-! Operations with no plain meaning: the reserved select codes (30_encoding.md R83), and operands off R89's list (log 18). -/

namespace Sys2Proof.Machine

open Claims

theorem faults_reserved0 (s : State) : Faults .reserved0 s 1 := faults_of_markConfigFault (c := .reservedOp) rfl

theorem faults_reservedF (s : State) : Faults .reservedF s 1 := faults_of_markConfigFault (c := .reservedOp) rfl

/-- A token other than Up, Down and Stop has no raw code (44_tx_encoder.md R201). -/
theorem txCodeWith_of_not_wf {id : BitVec 24} {node : BitVec 8} {token : BitVec 3} (codes : Config.CmdCodes)
    (h : (Instr.txsend id node token).wf = false) : txCodeWith codes token = none := by
  obtain ⟨⟨hup, hdown⟩, hstop⟩ :
      (token ≠ Command.up.code ∧ token ≠ Command.down.code) ∧ token ≠ Command.stop.code := by
    simpa [Instr.wf, Command.code] using h
  rw [txCodeWith, if_neg hup, if_neg hdown, if_neg hstop]

/-- An answer of an operation that is not well-formed is a ConfigFault or `reject TOKEN`. -/
theorem Answers.of_not_wf {i : Instr} {s t : State} (h : Answers i s t) (hwf : i.wf = false) :
    (∃ c, t = markConfigFault c s) ∨ t = setAnswer false false .token s := by
  cases h with
  | configFault i c s => exact .inl ⟨c, rfl⟩
  | txsendToken => exact .inr rfl
  | decodeOk _ _ _ _ _ _ _ _ _ hn | decodeBad _ _ _ _ _ _ _ _ _ hn => exact absurd hn (of_decide_eq_false hwf)
  | chksum _ _ _ hle => exact absurd hle (of_decide_eq_false hwf)
  | txsendStop _ _ _ _ _ hc | txsendSustained _ _ _ _ _ hc =>
    rw [txCodeWith_of_not_wf _ hwf] at hc
    cases hc
  | _ => cases hwf

end Sys2Proof.Machine

namespace Sys2Proof

open Machine Claims

/-- Settles O4: the reserved operations have the reserved codes, and no other. -/
theorem reservedSelectCodesRaiseConfigFault : Obligations.ReservedSelectCodesRaiseConfigFault := by
  refine ⟨fun cw s h => ?_, fun s => ⟨faults_reserved0 s, faults_reservedF s⟩, fun cw h0 hF => ?_⟩
  · rcases h with h | h
    · exact (decode_eq_reserved0_iff cw).2 h ▸ faults_reserved0 s
    · exact (decode_eq_reservedF_iff cw).2 h ▸ faults_reservedF s
  · exact ⟨mt (decode_eq_reserved0_iff cw).1 h0, mt (decode_eq_reservedF_iff cw).1 hF⟩

/-- Settles O5, by cases on the operation's answer. -/
theorem operationsOffThePlainListNeverEndDone : Obligations.OperationsOffThePlainListNeverEndDone := by
  intro i s hwf
  obtain ⟨t, he, ha⟩ := exec_answers i s
  rcases ha.of_not_wf hwf with ⟨c, rfl⟩ | rfl
  · exact .inl ⟨c.code, c.code_ne_zero, faults_of_markConfigFault he⟩
  · exact .inr (ends_of_setAnswer he rfl)

end Sys2Proof
end

section
/-! The comparator and the overlap of two bands (40_classifier.md R111, R112), and what each means for the band registers: a
band holds a sample, some two bands share one, the one band that holds it (R115). -/

namespace Sys2Proof.Machine

open Claims

/-- A band with `hi < lo` matches nothing. -/
theorem inBand_of_empty {lo hi : Sample} (h : hi.toNat < lo.toNat) (d : Sample) : inBand d lo hi = false := by
  rw [Bool.eq_false_iff, ne_eq, inBand_iff]
  omega

/-- A band with `hi < lo`, on either side, overlaps nothing. -/
theorem overlap_of_empty {lo1 hi1 lo2 hi2 : Sample} (h : hi1.toNat < lo1.toNat ∨ hi2.toNat < lo2.toNat) :
    overlap lo1 hi1 lo2 hi2 = false := by
  rw [Bool.eq_false_iff, ne_eq, overlap_iff]
  omega

/-- Bands that overlap share the greater of their lower limits. -/
theorem overlap_iff_shared (lo1 hi1 lo2 hi2 : Sample) :
    overlap lo1 hi1 lo2 hi2 = true ↔ ∃ d, inBand d lo1 hi1 = true ∧ inBand d lo2 hi2 = true := by
  simp only [overlap_iff, inBand_iff]
  constructor
  · intro h
    rcases Nat.le_total lo1.toNat lo2.toNat with hlo | hlo
    · exact ⟨lo2, by omega⟩
    · exact ⟨lo1, by omega⟩
  · rintro ⟨d, h1, h2⟩
    omega

theorem hits_iff (d : Sample) (s : State) (i : Fin 4) : hits d s i = true ↔ Holds s i d := by
  rw [hits, Bool.and_eq_true, inBand_iff, Holds]

theorem mem_bandPairs_iff (p : Fin 4 × Fin 4) : p ∈ bandPairs ↔ p.1 < p.2 := by
  revert p
  decide

/-- The overlap check finds two bands exactly when they hold a sample in common. -/
theorem bandsOverlap_iff (s : State) : bandsOverlap s = true ↔ ∃ i j d, i < j ∧ Holds s i d ∧ Holds s j d := by
  simp only [bandsOverlap, List.any_eq_true, mem_bandPairs_iff, Bool.and_eq_true, overlap_iff_shared, inBand_iff, Holds]
  constructor
  · rintro ⟨⟨i, j⟩, hij, ⟨hi, hj⟩, d, hdi, hdj⟩
    exact ⟨i, j, d, hij, ⟨hi, hdi⟩, hj, hdj⟩
  · rintro ⟨i, j, d, hij, ⟨hi, hdi⟩, hj, hdj⟩
    exact ⟨(i, j), hij, ⟨hi, hj⟩, d, hdi, hdj⟩

/-- The overlap check passes exactly when no sample is in two bands. -/
theorem bandsOverlap_eq_false_iff (s : State) : bandsOverlap s = false ↔ BandsApart s := by
  rw [Bool.eq_false_iff, ne_eq, bandsOverlap_iff]
  constructor
  · intro h i j d hi hj
    rcases lt_trichotomy i j with hlt | heq | hgt
    · exact absurd ⟨i, j, d, hlt, hi, hj⟩ h
    · exact heq
    · exact absurd ⟨j, i, d, hgt, hj, hi⟩ h
  · rintro h ⟨i, j, d, hij, hi, hj⟩
    exact hij.ne (h i j d hi hj)

theorem matchingBand_eq_none_iff (d : Sample) (s : State) : matchingBand d s = none ↔ ∀ i, ¬ Holds s i d := by
  have hmem : ∀ i : Fin 4, i ∈ ([0, 1, 2, 3] : List (Fin 4)) := by decide
  simp [matchingBand, List.find?_eq_none, hits_iff, hmem]

theorem holds_of_matchingBand {d : Sample} {s : State} {i : Fin 4} (h : matchingBand d s = some i) : Holds s i d :=
  (hits_iff d s i).1 (List.find?_some h)

/-- With the bands apart the lowest index that holds the sample is the only one (log 16). -/
theorem matchingBand_of_holds {d : Sample} {s : State} {i : Fin 4} (ha : BandsApart s) (h : Holds s i d) :
    matchingBand d s = some i := by
  cases hm : matchingBand d s with
  | none => exact absurd h ((matchingBand_eq_none_iff d s).1 hm i)
  | some j => rw [ha j i d (holds_of_matchingBand hm) h]

end Sys2Proof.Machine
end

section
/-! CLASSIFY and CLASSIFYP: the answer by what the bands hold (40_classifier.md R115, R116), and the overlap check of DECODE
(41_pwm_decoder.md R131). -/

namespace Sys2Proof.Machine

open Claims

theorem ends_congr {i j : Instr} {s u : State} {ok dup : Bool} {reason : BitVec 3} (h : exec i s = exec j s) :
    Ends i s u ok dup reason ↔ Ends j s u ok dup reason := by
  rw [Ends, Ends, h]

theorem faults_congr {i j : Instr} {s : State} {cause : BitVec 4} (h : exec i s = exec j s) :
    Faults i s cause ↔ Faults j s cause := by
  rw [Faults, Faults, h]

theorem done_classify {d : Sample} {s : State} {i : Fin 4} (ha : BandsApart s) (h : Holds s i d) :
    Done (.classify d) s { s with matchReg := BitVec.ofNat 3 i.val } := by
  have he : classifySample d s = done { s with matchReg := BitVec.ofNat 3 i.val } := by
    simp [classifySample, (bandsOverlap_eq_false_iff s).2 ha, matchingBand_of_holds ha h]
  exact ends_of_setAnswer (r := .none) he rfl

theorem rejects_classify {d : Sample} {s : State} (ha : BandsApart s) (h : ∀ i, ¬ Holds s i d) :
    Rejects (.classify d) s { s with matchReg := 4 } 2 := by
  have he : classifySample d s = reject .timing { s with matchReg := 4 } := by
    simp [classifySample, (bandsOverlap_eq_false_iff s).2 ha, (matchingBand_eq_none_iff d s).2 h]
  exact ends_of_setAnswer (r := .timing) he rfl

theorem faults_classify {s : State} (h : ¬ BandsApart s) (d : Sample) : Faults (.classify d) s 5 := by
  have ho : bandsOverlap s = true := by
    rwa [← bandsOverlap_eq_false_iff, Bool.not_eq_false] at h
  exact faults_of_markConfigFault (c := .bandOverlap) (if_pos ho)

/-- Past its index check CLASSIFYP is the CLASSIFY of the stored pulse. -/
theorem exec_classifyp {i : BitVec 16} {s : State} (h : i.toNat < s.number.toNat) :
    exec (.classifyp i) s = exec (.classify (pulseAt s i.toNat)) s :=
  if_neg (Nat.not_le.2 h)

theorem faults_classifyp_index {i : BitVec 16} {s : State} (h : s.number.toNat ≤ i.toNat) : Faults (.classifyp i) s 6 :=
  faults_of_markConfigFault (c := .bufferState) (if_pos h)

theorem faults_classifyp_overlap {i : BitVec 16} {s : State} (ha : ¬ BandsApart s) (h : i.toNat < s.number.toNat) :
    Faults (.classifyp i) s 5 :=
  (faults_congr (exec_classifyp h)).2 (faults_classify ha _)

theorem faults_decode_overlap {nbits : BitVec 8} {count start smin smax lmin lmax : BitVec 16} {s : State}
    (hn : nbits.toNat ≤ 128) (hc : count.toNat ≤ s.number.toNat) (ho : overlap smin smax lmin lmax = true) :
    Faults (.decode nbits count start smin smax lmin lmax) s 5 := by
  have hn' : ¬ 8 * Config.frameMax < nbits.toNat := Nat.not_lt.2 hn
  have he : execDecode nbits count start smin smax lmin lmax s = raise .bandOverlap s := by
    rw [execDecode, if_neg hn', if_neg (Nat.not_lt.2 hc), if_pos ho]
  exact faults_of_markConfigFault (c := .bandOverlap) he

end Sys2Proof.Machine

namespace Sys2Proof

open Machine Claims

/-- Settles O15. -/
theorem bandsHoldTheirLimitsAndOverlapBySharing : Obligations.BandsHoldTheirLimitsAndOverlapBySharing :=
  ⟨inBand_iff, fun d _ _ h => inBand_of_empty h d,
    fun lo1 hi1 lo2 hi2 => ⟨overlap_iff lo1 hi1 lo2 hi2, overlap_iff_shared lo1 hi1 lo2 hi2,
      fun h => ⟨overlap_of_empty (.inl h), overlap_of_empty (.inr h)⟩⟩,
    fun _ d ha => faults_classify ha d, fun _ _ ha h => faults_classifyp_overlap ha h,
    fun _ _ _ _ _ _ _ _ hn hc ho => faults_decode_overlap hn hc ho⟩

/-- Settles O18. -/
theorem classifyAnswersTheUniqueBand : Obligations.ClassifyAnswersTheUniqueBand := fun d _ =>
  ⟨fun ha _ h => done_classify ha h, fun ha h => rejects_classify ha h, fun ha => faults_classify ha d⟩

/-- Settles O19: below NUMBER each answer is the one CLASSIFY gives for the stored pulse. -/
theorem classifypClassifiesTheStoredPulse : Obligations.ClassifypClassifiesTheStoredPulse := fun _ _ =>
  ⟨faults_classifyp_index, exec_classifyp,
    fun h ha _ hk => (ends_congr (exec_classifyp h)).2 (done_classify ha hk),
    fun h ha hk => (ends_congr (exec_classifyp h)).2 (rejects_classify ha hk),
    fun h ha => faults_classifyp_overlap ha h⟩

end Sys2Proof
end

section
/-! BAND and BANDCLR: the write of one band register and its frame (40_classifier.md R113, R114), and the durations a scaled
band holds (R118). -/

namespace Sys2Proof.Machine

open Claims

/-- What an operation leaves that ends with one band register written: the band, the other bands, everything else. -/
theorem exists_next_of_ends_setBand {i : Instr} {s : State} {b : Fin 4} {x : Band} {ok dup : Bool} {reason : BitVec 3}
    (h : Ends i s (setBand b x s) ok dup reason) :
    ∃ t, exec i s = .next t ∧ t = { s with st := t.st, bands := t.bands } ∧ Answered s t ok dup reason ∧
      t.bands = s.bands.set b x ∧ band t b = x ∧ ∀ j, j ≠ b → band t j = band s j := by
  obtain ⟨t, he, ht, ha⟩ := h
  have hbands : t.bands = s.bands.set b x := by rw [ht]; rfl
  have hband : ∀ j, band t j = band (setBand b x s) j := fun j => by rw [band, hbands]; rfl
  refine ⟨t, he, ?_, ha, hbands, ?_, fun j hj => ?_⟩
  · rw [hbands]; exact ht
  · rw [hband, band_setBand_same]
  · rw [hband, band_setBand_other hj.symm]

/-- Writing a band register with what it holds changes nothing. -/
theorem bands_set_band (s : State) (b : Fin 4) : s.bands.set b (band s b) = s.bands :=
  Vector.set_getElem_self b.isLt

theorem done_bandclr (b : Fin 4) (s : State) : Done (.bandclr b) s (setBand b { band s b with v := false } s) :=
  ends_of_setAnswer (r := .none) rfl rfl

section

variable {nominal tol : BitVec 16} {s : State}

theorem done_band (b : Fin 4) (hm : s.multiply ≠ 0) (hle : tol.toNat ≤ nominal.toNat)
    (hsum : nominal.toNat + tol.toNat ≤ 65535) :
    Done (.band b nominal tol) s
      (setBand b ⟨true, bandMin s.multiply nominal tol, bandMax s.multiply nominal tol⟩ s) := by
  rcases execBand_cases b nominal tol s with ⟨h0, -⟩ | ⟨-, hbad, -⟩ | ⟨-, -, -, he⟩
  · exact absurd h0 hm
  · omega
  · exact ends_of_setAnswer (r := .none) he rfl

theorem faults_band_multZero (b : Fin 4) (hm : s.multiply = 0) : Faults (.band b nominal tol) s 3 :=
  faults_of_markConfigFault (c := .multZero) (if_pos hm)

theorem faults_band_arith (b : Fin 4) (hm : s.multiply ≠ 0)
    (h : nominal.toNat < tol.toNat ∨ 65535 < nominal.toNat + tol.toNat) : Faults (.band b nominal tol) s 4 := by
  rcases execBand_cases b nominal tol s with ⟨h0, -⟩ | ⟨-, -, he⟩ | ⟨-, hle, hsum, -⟩
  · exact absurd h0 hm
  · exact faults_of_markConfigFault (c := .bandArith) he
  · omega

/-- `div` is monotone, so a duration inside the window is inside the limits of 40_classifier.md R113 at every unit scale. -/
theorem sample_in_bandLimits {multiply : BitVec 16} {us : Nat} (hsum : nominal.toNat + tol.toNat ≤ 65535)
    (hlo : nominal.toNat - tol.toNat ≤ us) (hhi : us ≤ nominal.toNat + tol.toNat) :
    (bandMin multiply nominal tol).toNat ≤ (BitVec.ofNat 16 (us / multiply.toNat)).toNat ∧
      (BitVec.ofNat 16 (us / multiply.toNat)).toNat ≤ (bandMax multiply nominal tol).toNat := by
  have hus : us / multiply.toNat ≤ us := Nat.div_le_self _ _
  have hd : (BitVec.ofNat 16 (us / multiply.toNat)).toNat = us / multiply.toNat := by
    rw [BitVec.toNat_ofNat, Nat.mod_eq_of_lt (by omega)]
  rw [bandMin_toNat, bandMax_toNat _ _ _ hsum, hd]
  exact ⟨Nat.div_le_div_right hlo, Nat.div_le_div_right hhi⟩

end

theorem holds_of_band_eq {s : State} {b : Fin 4} {lo hi d : Sample} (h : band s b = ⟨true, lo, hi⟩)
    (hd : lo.toNat ≤ d.toNat ∧ d.toNat ≤ hi.toNat) : Holds s b d := by
  rw [Holds, h]
  exact ⟨rfl, hd⟩

end Sys2Proof.Machine

namespace Sys2Proof

open Machine Claims

/-- Settles O16. -/
theorem bandComputesItsLimits : Obligations.BandComputesItsLimits := by
  intro b nominal tol s
  refine ⟨fun hm hle hsum => ?_, faults_band_multZero b, faults_band_arith b⟩
  obtain ⟨t, he, ht, ha, -, hb, hother⟩ := exists_next_of_ends_setBand (done_band b hm hle hsum)
  refine ⟨t, he, ht, ha, ?_, ?_, ?_, hother⟩
  · rw [hb]
  · rw [hb, bandMin_toNat]
  · rw [hb, bandMax_toNat _ _ _ hsum]

/-- Settles O17. -/
theorem bandclrClearsTheValidFlagAlone : Obligations.BandclrClearsTheValidFlagAlone := by
  intro b s
  obtain ⟨t, he, ht, ha, hbands, hb, hother⟩ := exists_next_of_ends_setBand (done_bandclr b s)
  refine ⟨t, he, ht, ha, hb, hother, fun hv => ?_, fun d hd => ?_⟩
  · have hsame : { band s b with v := false } = band s b := by rw [← hv]
    rw [hbands, hsame, bands_set_band]
  · obtain ⟨hv, -⟩ := hd
    rw [hb] at hv
    exact Bool.false_ne_true hv

/-- Settles O20. The converse fails at 300 +- 100 and MULTIPLY = 25: the upper limit is 400 div 25 = 16, which is 424 div 25
too, and 424 is above the window. -/
theorem trueDurationIsInTheScaledBand : Obligations.TrueDurationIsInTheScaledBand := by
  refine ⟨fun b nominal tol s us hm hle hsum hlo hhi => ?_, fun h => ?_⟩
  · obtain ⟨t, he, -, -, -, hb, -⟩ := exists_next_of_ends_setBand (done_band b hm hle hsum)
    exact ⟨t, he, holds_of_band_eq hb (sample_in_bandLimits hsum hlo hhi)⟩
  · have hm : ({ State.reset with multiply := 25 } : State).multiply ≠ 0 := by decide
    obtain ⟨t, he, -, -, -, hb, -⟩ :=
      exists_next_of_ends_setBand (done_band (nominal := 300) (tol := 100) 0 hm (by decide) (by decide))
    have hheld : Holds t 0 (BitVec.ofNat 16 (424 / (25 : BitVec 16).toNat)) := holds_of_band_eq hb (by decide)
    have hwindow := h 0 300 100 _ t 424 hm (by decide) (by decide) (by decide) he hheld
    exact absurd hwindow.2 (by decide)

end Sys2Proof
end

section
/-! The loop of DECODE (41_pwm_decoder.md R132, R133): which pulse decides which bit, and what the loop leaves in FB. -/

namespace Sys2Proof.Machine

theorem overlap_eq_false_iff (lo1 hi1 lo2 hi2 : Sample) :
    overlap lo1 hi1 lo2 hi2 = false ↔ min hi1.toNat hi2.toNat < max lo1.toNat lo2.toNat := by
  rw [Bool.eq_false_iff, ne_eq, overlap_iff, Nat.not_le]

theorem pulseBit_eq_none_iff (b : PwmBands) (d : Sample) :
    pulseBit b d = none ↔ inBand d b.smin b.smax = false ∧ inBand d b.lmin b.lmax = false := by
  rw [pulseBit_eq]
  cases inBand d b.smin b.smax <;> cases inBand d b.lmin b.lmax <;> simp

/-- With the bands apart a sample in the long band is not in the short one, so the order of the two tests is not seen. -/
theorem pulseBit_eq_some_iff {b : PwmBands} (ho : overlap b.smin b.smax b.lmin b.lmax = false) (d : Sample) (bit : Bool) :
    pulseBit b d = some bit ↔
      (bit = false ∧ inBand d b.smin b.smax = true) ∨ (bit = true ∧ inBand d b.lmin b.lmax = true) := by
  have hnot : ¬ (inBand d b.smin b.smax = true ∧ inBand d b.lmin b.lmax = true) := fun h =>
    Bool.eq_false_iff.1 ho ((overlap_iff_shared ..).2 ⟨d, h⟩)
  rw [pulseBit_eq]
  by_cases hs : inBand d b.smin b.smax = true
  · have hl : inBand d b.lmin b.lmax = false := Bool.eq_false_iff.2 fun hl => hnot ⟨hs, hl⟩
    simp [hs, hl, eq_comm]
  · by_cases hl : inBand d b.lmin b.lmax = true <;> simp [hs, hl, eq_comm]

section

variable {b : PwmBands} {count start : BitVec 16} {s : State}

theorem examineBit_eq_ok_iff {k : Nat} {bit : Bool} :
    examineBit b count start s k = .ok bit ↔
      start.toNat + 2 * k < count.toNat ∧ pulseBit b (pulseAt s (start.toNat + 2 * k)) = some bit := by
  rw [examineBit_eq]
  split
  · simp only [reduceCtorEq, false_iff]
    omega
  · cases pulseBit b (pulseAt s (start.toNat + 2 * k)) with
    | none => simp
    | some c => simp; omega

/-- With the bands apart a bit is decided by the band that holds its pulse. -/
theorem examineBit_eq_ok_iff_inBand {k : Nat} {bit : Bool} (ho : overlap b.smin b.smax b.lmin b.lmax = false) :
    examineBit b count start s k = .ok bit ↔
      start.toNat + 2 * k < count.toNat ∧
        ((bit = false ∧ inBand (pulseAt s (start.toNat + 2 * k)) b.smin b.smax = true) ∨
          (bit = true ∧ inBand (pulseAt s (start.toNat + 2 * k)) b.lmin b.lmax = true)) := by
  rw [examineBit_eq_ok_iff, pulseBit_eq_some_iff ho]

theorem examineBit_of_exhausted {k : Nat} (h : count.toNat ≤ start.toNat + 2 * k) :
    examineBit b count start s k = .error .exhausted :=
  if_pos h

theorem examineBit_of_timing {k : Nat} (h : start.toNat + 2 * k < count.toNat)
    (hb : pulseBit b (pulseAt s (start.toNat + 2 * k)) = none) : examineBit b count start s k = .error .timing := by
  rw [examineBit_eq, if_neg (Nat.not_le.2 h), hb]

/-- A loop that ended decided every bit it came to. -/
theorem exists_bit_of_decodeBits {n k : Nat} {t : State} (h : decodeBits b count start n k s = .ok t) :
    ∀ j < n, ∃ bit, examineBit b count start s (k + j) = .ok bit := by
  induction n generalizing k s with
  | zero => exact nofun
  | succ n ih =>
    simp only [decodeBits] at h
    split at h
    · cases h
    · rename_i bit hbit
      rintro (_ | j) hj
      · exact ⟨bit, hbit⟩
      · have hrest := ih h j (by omega)
        rwa [examineBit_orBit, show k + 1 + j = k + (j + 1) by omega] at hrest

/-- The inversion of the loop: the bits it decided, and FB with them set. -/
theorem decodeBits_bits {n : Nat} {t : State} (h : decodeBits b count start n 0 s = .ok t) :
    ∃ bits : Nat → Bool, (∀ k < n, examineBit b count start s k = .ok (bits k)) ∧
      ∀ k, fbBit t k = if k < n then (fbBit s k || bits k) else fbBit s k := by
  choose! bits hbits using exists_bit_of_decodeBits h
  simp only [Nat.zero_add] at hbits
  obtain ⟨u, hu, hfb⟩ := decodeBits_ok (k := 0) (bits := bits) (by simpa using hbits)
  rw [h] at hu
  cases hu
  exact ⟨bits, hbits, fun k => by simpa using hfb k⟩

/-- The first bit that cannot be decided decides how the loop ends. -/
theorem decodeBits_of_first_error {n k : Nat} {r : Reason} (hk : k < n)
    (hbefore : ∀ j < k, ∃ bit, examineBit b count start s j = .ok bit) (hr : examineBit b count start s k = .error r) :
    decodeBits b count start n 0 s = .error r := by
  cases h : decodeBits b count start n 0 s with
  | ok t =>
    obtain ⟨bit, hbit⟩ := exists_bit_of_decodeBits h k hk
    rw [Nat.zero_add, hr] at hbit
    cases hbit
  | error r' =>
    obtain ⟨j, -, hj, hall⟩ := decodeBits_error h
    simp only [Nat.zero_add] at hj hall
    rcases Nat.lt_trichotomy j k with hlt | rfl | hgt
    · obtain ⟨bit, hbit⟩ := hbefore j hlt
      rw [hj] at hbit
      cases hbit
    · rw [hr] at hj
      cases hj
      rfl
    · obtain ⟨bit, hbit⟩ := hall k hgt
      rw [hr] at hbit
      cases hbit

/-- Another buffer with the same examined pulses: the loop ends alike, and takes the buffer along. -/
theorem decodeBits_with_pulse {n k : Nat} {pulse : Memory 16}
    (h : ∀ j < n, pulseAt { s with pulse := pulse } (start.toNat + 2 * (k + j)) = pulseAt s (start.toNat + 2 * (k + j))) :
    decodeBits b count start n k { s with pulse := pulse } =
      (decodeBits b count start n k s).map fun t => { t with pulse := pulse } := by
  induction n generalizing k s with
  | zero => rfl
  | succ n ih =>
    have hpulse := h 0 (Nat.succ_pos n)
    rw [Nat.add_zero] at hpulse
    have hexamine : examineBit b count start { s with pulse := pulse } k = examineBit b count start s k := by
      rw [examineBit_eq, examineBit_eq, hpulse]
    rw [decodeBits, decodeBits, hexamine]
    cases examineBit b count start s k with
    | error r => rfl
    | ok bit =>
      refine ih (s := orBit k bit s) fun j hj => ?_
      rw [show k + 1 + j = k + (j + 1) by omega]
      exact h (j + 1) (by omega)

end

end Sys2Proof.Machine
end

section
/-! What TXF holds after a build (30_encoding.md R90; 44_tx_encoder.md R202), and the guards of FB, TXF and RXCMD
(41_pwm_decoder.md R134; 42_frame_check.md R155). -/

namespace Sys2Proof.Machine

open Claims

theorem holdsFrame_buildFrame (id : BitVec 24) (node : BitVec 8) (code : BitVec 16) (s : State) :
    HoldsFrame (buildFrame id node code s) id node code := by
  refine ⟨rfl, fun j hj => ?_⟩
  have hid : id.toNat < 2 ^ 24 := id.isLt
  have hcode : code.toNat < 2 ^ 16 := code.isLt
  rw [txfAt_buildFrame (h := hj)]
  interval_cases j <;>
    simp [frameBytes, frameByte, byteSum, Config.txHeader, Config.txTrailer] <;> omega

/-- TXF_VALID promises of a built frame what the frame has. -/
theorem guardInv_of_holdsFrame {s : State} {id : BitVec 24} {node : BitVec 8} {code : BitVec 16}
    (hf : HoldsFrame s id node code)
    (hfb : s.fbBits ≠ 0 → ∀ k, s.fbBits.toNat ≤ k → k < 8 * Config.frameMax → fbBit s k = false)
    (hrx : s.rxValid = true → s.rxCmd = (cmdMap s.rxCode).code) : GuardInv s := by
  obtain ⟨-, hbytes⟩ := hf
  refine ⟨hfb, fun _ => ?_, fun _ => ?_, fun _ => ?_, hrx⟩
  · exact BitVec.eq_of_toNat_eq (hbytes 0 (by decide))
  · simp only [hbytes, Nat.reduceLT]
    rfl
  · exact BitVec.eq_of_toNat_eq (hbytes 8 (by decide))

theorem buildFrame_guardInv {s : State} (hs : GuardInv s) (id : BitVec 24) (node : BitVec 8) (code : BitVec 16) :
    GuardInv (buildFrame id node code s) :=
  guardInv_of_holdsFrame (holdsFrame_buildFrame id node code s) hs.fbTail hs.rxMapped

/-- By cases on what was answered: DECODE clears FB first, RXCHK writes RXCMD with RXCODE or withdraws RXVALID, TXBUILD and
TXSEND build a frame, and no other answer writes what is guarded. -/
theorem Answers.guardInv {i : Instr} {s t : State} (h : Answers i s t) (hs : GuardInv s) : GuardInv t := by
  have ⟨hfb, hheader, hsum, htrailer, hrx⟩ := hs
  cases h with
  | configFault | band | bandclr | classifyHit | classifyMiss | classifypHit | classifypMiss | gateIn | gateOut | chksum
  | emitRelease | emitRecord | consume | dedupOld | dedupNew | txsendToken =>
    exact ⟨hfb, hheader, hsum, htrailer, hrx⟩
  | decodeOk nbits count start smin smax lmin lmax s u hn hc h =>
    obtain ⟨bits, -, hbits⟩ := decodeBits_bits h
    have htail (k : Nat) (hk : nbits.toNat ≤ k) (hlt : k < 8 * Config.frameMax) : fbBit u k = false := by
      rw [hbits, if_neg (Nat.not_lt.2 hk), fbBit_clearFb hlt]
    rw [decodeBits_frame h] at htail ⊢
    exact ⟨fun _ => htail, hheader, hsum, htrailer, hrx⟩
  | decodeBad => exact ⟨fun hbits => absurd rfl hbits, hheader, hsum, htrailer, hrx⟩
  | rxchkHeader | rxchkChecksum => exact ⟨hfb, hheader, hsum, htrailer, nofun⟩
  | rxchkOk => exact ⟨hfb, hheader, hsum, htrailer, fun _ => rfl⟩
  | txbuild id node code =>
    obtain ⟨hfb, hheader, hsum, htrailer, hrx⟩ := buildFrame_guardInv hs id node code
    exact ⟨hfb, hheader, hsum, htrailer, hrx⟩
  | txframe =>
    rw [emitFrame_frame]
    exact ⟨hfb, hheader, hsum, htrailer, hrx⟩
  | txsendStop id node token code =>
    obtain ⟨hfb, hheader, hsum, htrailer, hrx⟩ := buildFrame_guardInv hs id node code
    rw [emitSequence_frame]
    exact ⟨hfb, hheader, hsum, htrailer, hrx⟩
  | txsendSustained id node =>
    obtain ⟨hfb, hheader, hsum, htrailer, hrx⟩ := buildFrame_guardInv hs id node Config.cmdCodes.release
    rw [emitRelease_frame, emitSequence_frame]
    exact ⟨hfb, hheader, hsum, htrailer, hrx⟩

end Sys2Proof.Machine

namespace Sys2Proof

open Machine

/-- Settles O53, by cases on the step's input: a CAPTURE writes nothing guarded, and a reset takes the guards down. -/
theorem stepKeepsGuardedContents : Obligations.StepKeepsGuardedContents := by
  intro s t hs h
  have ⟨hfb, hheader, hsum, htrailer, hrx⟩ := hs
  rcases step_cases h with ⟨-, rfl⟩ | ⟨cw, rest, -, he⟩ | ⟨c, rest, -, -, rfl⟩ | ⟨rest, -, rfl⟩
  · exact hs
  · exact (answers_of_exec he).guardInv ⟨hfb, hheader, hsum, htrailer, hrx⟩
  · exact ⟨hfb, hheader, hsum, htrailer, hrx⟩
  · exact resetNow_guardInv _

end Sys2Proof
end

section
/-! DECODE (41_pwm_decoder.md): its checks in their order (R131), and how it ends once they have passed (R132, R134). -/

namespace Sys2Proof.Machine

open Claims

variable {nbits : BitVec 8} {count start smin smax lmin lmax : BitVec 16} {s : State}

theorem answered_setAnswer {u : State} {ok dup : Bool} {r : Reason} (hst : u.st = s.st) :
    Answered s (setAnswer ok dup r u) ok dup r.code :=
  ⟨by simp, by simp, by simp, by simp [State.cfgErr, hst], by simp [hst]⟩

theorem exec_decode_nbits (h : 128 < nbits.toNat) :
    exec (.decode nbits count start smin smax lmin lmax) s = raise .operandRange s :=
  if_pos h

theorem exec_decode_count (hn : nbits.toNat ≤ 128) (h : s.number.toNat < count.toNat) :
    exec (.decode nbits count start smin smax lmin lmax) s = raise .bufferState s := by
  have hn' : ¬ 8 * Config.frameMax < nbits.toNat := Nat.not_lt.2 hn
  exact (if_neg hn').trans (if_pos h)

theorem exec_decode_overlap (hn : nbits.toNat ≤ 128) (hc : count.toNat ≤ s.number.toNat)
    (ho : overlap smin smax lmin lmax = true) :
    exec (.decode nbits count start smin smax lmin lmax) s = raise .bandOverlap s := by
  have hn' : ¬ 8 * Config.frameMax < nbits.toNat := Nat.not_lt.2 hn
  exact (if_neg hn').trans ((if_neg (Nat.not_lt.2 hc)).trans (if_pos ho))

/-- The checks of R131, passed. -/
structure DecodeChecksPass (nbits : BitVec 8) (count smin smax lmin lmax : BitVec 16) (s : State) : Prop where
  nbits : nbits.toNat ≤ 128
  count : count.toNat ≤ s.number.toNat
  apart : min smax.toNat lmax.toNat < max smin.toNat lmin.toNat

theorem DecodeChecksPass.overlap_eq_false (h : DecodeChecksPass nbits count smin smax lmin lmax s) :
    overlap smin smax lmin lmax = false :=
  (overlap_eq_false_iff ..).2 h.apart

/-- Which check fails depends on the operands and NUMBER alone. -/
theorem decode_raises_or_checksPass (nbits : BitVec 8) (count start smin smax lmin lmax : BitVec 16) (s : State) :
    (∃ c, ∀ u : State, u.number = s.number → exec (.decode nbits count start smin smax lmin lmax) u = raise c u) ∨
      DecodeChecksPass nbits count smin smax lmin lmax s := by
  rcases Nat.lt_or_ge 128 nbits.toNat with h | hn
  · exact .inl ⟨_, fun _ _ => exec_decode_nbits h⟩
  · rcases Nat.lt_or_ge s.number.toNat count.toNat with h | hc
    · exact .inl ⟨_, fun _ hu => exec_decode_count hn (hu ▸ h)⟩
    · cases ho : overlap smin smax lmin lmax with
      | true => exact .inl ⟨_, fun _ hu => exec_decode_overlap hn (hu ▸ hc) ho⟩
      | false => exact .inr ⟨hn, hc, (overlap_eq_false_iff ..).1 ho⟩

/-- Past its checks DECODE is its loop from a cleared FB. -/
theorem exec_decode (h : DecodeChecksPass nbits count smin smax lmin lmax s) :
    exec (.decode nbits count start smin smax lmin lmax) s =
      match decodeBits ⟨smin, smax, lmin, lmax⟩ count start nbits.toNat 0 (clearFb s) with
      | .ok t => done { t with fbBits := nbits }
      | .error r => reject r (forgetFb s) := by
  have hn : ¬ 8 * Config.frameMax < nbits.toNat := Nat.not_lt.2 h.nbits
  have ho : ¬ overlap smin smax lmin lmax = true := Bool.eq_false_iff.1 h.overlap_eq_false
  exact (if_neg hn).trans ((if_neg (Nat.not_lt.2 h.count)).trans (if_neg ho))

/-- The loop decides every bit: `done`, with those bits in FB and zeros behind them. -/
theorem decode_of_bits (h : DecodeChecksPass nbits count smin smax lmin lmax s) {bits : Nat → Bool}
    (hbits : ∀ k < nbits.toNat, examineBit ⟨smin, smax, lmin, lmax⟩ count start s k = .ok (bits k)) :
    ∃ t, exec (.decode nbits count start smin smax lmin lmax) s = .next t ∧
      t = { s with st := t.st, fb := t.fb, fbBits := nbits } ∧ Answered s t true false 0 ∧
      (∀ k < nbits.toNat, fbBit t k = bits k) ∧ ∀ k, nbits.toNat ≤ k → k < 128 → fbBit t k = false := by
  obtain ⟨u, hu, hfb⟩ := decodeBits_ok (k := 0) (s := clearFb s) (bits := bits) (by simpa [examineBit_clearFb] using hbits)
  obtain ⟨m, rfl⟩ : ∃ m, u = { s with fb := m, fbBits := 0 } := ⟨u.fb, decodeBits_frame hu⟩
  have he : exec (.decode nbits count start smin smax lmin lmax) s =
      .next (setAnswer true false .none { s with fb := m, fbBits := nbits }) := by
    rw [exec_decode h, hu]
    rfl
  have hn := h.nbits
  refine ⟨_, he, rfl, answered_setAnswer rfl, fun k hk => ?_, fun k hk hlt => ?_⟩
  · calc fbBit _ k
      _ = (fbBit (clearFb s) k || bits k) := (hfb k).trans (if_pos (by omega))
      _ = bits k := by rw [fbBit_clearFb (hk.trans_le hn), Bool.false_or]
  · calc fbBit _ k
      _ = fbBit (clearFb s) k := (hfb k).trans (if_neg (by omega))
      _ = false := fbBit_clearFb hlt s

/-- The first bit the loop cannot decide: `reject` with its reason (60_exceptions.md R247). -/
theorem decode_of_first_error (h : DecodeChecksPass nbits count smin smax lmin lmax s) {k : Nat} {r : Reason}
    (hk : k < nbits.toNat)
    (hbefore : ∀ j < k, ∃ bit, examineBit ⟨smin, smax, lmin, lmax⟩ count start s j = .ok bit)
    (hr : examineBit ⟨smin, smax, lmin, lmax⟩ count start s k = .error r) :
    ∃ t, exec (.decode nbits count start smin smax lmin lmax) s = .next t ∧
      t = { s with st := t.st, fb := t.fb, fbBits := 0, draws := t.draws } ∧ Answered s t false false r.code := by
  have he : exec (.decode nbits count start smin smax lmin lmax) s = .next (setAnswer false false r (forgetFb s)) := by
    rw [exec_decode h, decodeBits_of_first_error (s := clearFb s) hk hbefore hr]
    rfl
  exact ⟨_, he, rfl, answered_setAnswer rfl⟩

/-- A DECODE that ended `done` decided every bit. -/
theorem bits_of_decode_ok (h : DecodeChecksPass nbits count smin smax lmin lmax s) {t : State}
    (he : exec (.decode nbits count start smin smax lmin lmax) s = .next t) (hok : t.ok = true) :
    ∃ bits : Nat → Bool, ∀ k < nbits.toNat, examineBit ⟨smin, smax, lmin, lmax⟩ count start s k = .ok (bits k) := by
  rw [exec_decode h] at he
  split at he
  · rename_i u hu
    obtain ⟨bits, hbits, -⟩ := decodeBits_bits hu
    exact ⟨bits, hbits⟩
  · cases he
    rw [setAnswer_ok] at hok
    cases hok

/-- DECODE with another buffer that has the same examined pulses. -/
theorem exec_decode_with_pulse {t : State} {pulse : Memory 16}
    (h : ∀ k < nbits.toNat, pulseAt { s with pulse := pulse } (start.toNat + 2 * k) = pulseAt s (start.toNat + 2 * k))
    (he : exec (.decode nbits count start smin smax lmin lmax) s = .next t) :
    exec (.decode nbits count start smin smax lmin lmax) { s with pulse := pulse } = .next { t with pulse := pulse } := by
  rcases decode_raises_or_checksPass nbits count start smin smax lmin lmax s with ⟨c, hraise⟩ | hpass
  · rw [hraise s rfl] at he
    cases he
    exact hraise _ rfl
  · have hloop : decodeBits ⟨smin, smax, lmin, lmax⟩ count start nbits.toNat 0 (clearFb { s with pulse := pulse }) =
        (decodeBits ⟨smin, smax, lmin, lmax⟩ count start nbits.toNat 0 (clearFb s)).map
          fun u => { u with pulse := pulse } :=
      decodeBits_with_pulse (s := clearFb s) fun k hk => by
        rw [Nat.zero_add]
        exact h k hk
    rw [exec_decode hpass] at he
    rw [exec_decode (s := { s with pulse := pulse }) ⟨hpass.nbits, hpass.count, hpass.apart⟩, hloop]
    cases hdec : decodeBits ⟨smin, smax, lmin, lmax⟩ count start nbits.toNat 0 (clearFb s) with
    | ok u | error r =>
      rw [hdec] at he
      cases he
      rfl

end Sys2Proof.Machine

namespace Sys2Proof

open Machine Claims

/-- Settles O21: with the checks passed, bit 0 is the first failing bit. -/
theorem decodeChecksItsOperandsInOrder : Obligations.DecodeChecksItsOperandsInOrder := by
  intro nbits count start smin smax lmin lmax s
  refine ⟨fun h => faults_of_markConfigFault (c := .operandRange) (exec_decode_nbits h),
    fun hn h => faults_of_markConfigFault (c := .bufferState) (exec_decode_count hn h),
    fun hn hc ho => faults_decode_overlap hn hc ((overlap_iff ..).2 ho), fun hn hc ho hpos hstart => ?_⟩
  obtain ⟨t, he, -, ha⟩ := decode_of_first_error ⟨hn, hc, ho⟩ hpos nofun (examineBit_of_exhausted hstart)
  exact ⟨t, he, ha⟩

/-- Settles O23: every bit below `k` is decided, and bit `k` is not. -/
theorem decodeReportsItsFirstFailingBit : Obligations.DecodeReportsItsFirstFailingBit := by
  intro nbits count start smin smax lmin lmax s k hn hc ho hk hbefore
  have hpass : DecodeChecksPass nbits count smin smax lmin lmax s := ⟨hn, hc, ho⟩
  have hdecided (j : Nat) (hj : j < k) : ∃ bit, examineBit ⟨smin, smax, lmin, lmax⟩ count start s j = .ok bit := by
    obtain ⟨hlt, hshort | hlong⟩ := hbefore j hj
    · exact ⟨false, (examineBit_eq_ok_iff_inBand hpass.overlap_eq_false).2 ⟨hlt, .inl ⟨rfl, hshort⟩⟩⟩
    · exact ⟨true, (examineBit_eq_ok_iff_inBand hpass.overlap_eq_false).2 ⟨hlt, .inr ⟨rfl, hlong⟩⟩⟩
  exact ⟨fun hex => decode_of_first_error hpass hk hdecided (examineBit_of_exhausted hex), fun hlt hs hl =>
    decode_of_first_error hpass hk hdecided (examineBit_of_timing hlt ((pulseBit_eq_none_iff ..).2 ⟨hs, hl⟩))⟩

/-- Settles O24: no check looks at PULSE, and the loop looks at the examined pulses only (FB after a reject: log 8). -/
theorem decodeLooksAtEverySecondSampleOnly : Obligations.DecodeLooksAtEverySecondSampleOnly :=
  fun _ _ _ _ _ _ _ _ _ _ => exec_decode_with_pulse

/-- Settles O22: the samples decide every bit, and a `done` DECODE has had every bit decided. -/
theorem decodeRecoversTheBits : Obligations.DecodeRecoversTheBits := by
  refine ⟨fun nbits count start smin smax lmin lmax s bits hn hc ho hbits => ?_,
    fun nbits count start smin smax lmin lmax s t hn hc ho he hok => ?_⟩
  · have hpass : DecodeChecksPass nbits count smin smax lmin lmax s := ⟨hn, hc, ho⟩
    refine decode_of_bits hpass fun k hk => ?_
    obtain ⟨hlt, hshort, hlong⟩ := hbits k hk
    refine (examineBit_eq_ok_iff_inBand hpass.overlap_eq_false).2 ⟨hlt, ?_⟩
    cases hbit : bits k with
    | false => exact .inl ⟨rfl, (inBand_iff ..).2 (hshort hbit)⟩
    | true => exact .inr ⟨rfl, (inBand_iff ..).2 (hlong hbit)⟩
  · have hpass : DecodeChecksPass nbits count smin smax lmin lmax s := ⟨hn, hc, ho⟩
    obtain ⟨bits, hbits⟩ := bits_of_decode_ok hpass he hok
    obtain ⟨u, hu, hframe, -, hfb, hzero⟩ := decode_of_bits hpass hbits
    obtain rfl : u = t := by rw [hu] at he; cases he; rfl
    refine ⟨by rw [hframe], fun k hk => ?_, hzero⟩
    have hband := (examineBit_eq_ok_iff_inBand hpass.overlap_eq_false).1 (hbits k hk)
    rwa [← hfb k hk] at hband

end Sys2Proof
end

section
/-! The driven frame read back (41_pwm_decoder.md R136; 44_tx_encoder.md R203, R205): the segments of a frame in TRACE, the
samples of its data pairs at a unit scale, and the bytes of FB and TXF by their bits (20_memory.md R62). -/

namespace Sys2Proof.Machine

open Claims

/-! ## The segments of a frame -/

theorem bitPair_eq_pairOf (t : Config.TxTiming) (bit : Bool) : bitPair t bit = pairOf t bit := by
  cases bit <;> rfl

/-- With R5's durations every segment of a frame but the gap has a length, so TRACE gets them all. -/
theorem filter_frameSegments {t : Config.TxTiming} (h : ValidTiming t) (primed : Bool) (bits : Nat → Bool) :
    (frameSegments t primed bits).filter (fun y => decide (0 < y.us)) = frameTrace t primed bits := by
  obtain ⟨hshort, hlong, hsyncHigh, hsyncLow, hwakeHigh, hwakeLow, -⟩ := h
  have hwake : (wakePreamble t).filter (fun y => decide (0 < y.us)) = wakePreamble t := by
    simp [wakePreamble, hwakeHigh, hwakeLow]
  have hsync : (syncPulse t).filter (fun y => decide (0 < y.us)) = syncPulse t := by
    simp [syncPulse, hsyncHigh, hsyncLow]
  have hpair (bit : Bool) : (bitPair t bit).filter (fun y => decide (0 < y.us)) = pairOf t bit := by
    cases bit <;> simp [bitPair_eq_pairOf, pairOf, hshort, hshort.trans hlong]
  have hgap : [(⟨false, t.tGap⟩ : Segment)].filter (fun y => decide (0 < y.us)) = lowFor t.tGap := by
    rcases Nat.eq_zero_or_pos t.tGap with hz | hp
    · simp [lowFor, hz]
    · simp [lowFor, hp, hp.ne']
  simp only [frameSegments, List.filter_append, List.filter_flatMap, hsync, hpair, hgap]
  cases primed with
  | false => rfl
  | true =>
    rw [if_pos rfl, hwake]
    rfl

/-- Of blocks of two, the first of block `k` is element `2 * k`. -/
theorem getElem?_flatMap_pair {α β : Type} (first second : α → β) (xs : List α) (k : Nat) :
    (xs.flatMap fun x => [first x, second x])[2 * k]? = xs[k]?.map first := by
  induction xs generalizing k with
  | nil => rfl
  | cons x xs ih =>
    cases k with
    | zero => rfl
    | succ k => exact ih k

/-- How long the high segment of a data bit lasts (44_tx_encoder.md R205). -/
def highTime (t : Config.TxTiming) (bit : Bool) : Nat := if bit then t.tLong else t.tShort

theorem pairOf_eq (t : Config.TxTiming) (bit : Bool) : pairOf t bit = [⟨true, highTime t bit⟩, ⟨false, highTime t !bit⟩] := by
  cases bit <;> rfl

/-- The high segment of data bit `k` of a bare frame, behind the two segments of the sync pulse. -/
theorem getElem?_frameTrace_bare (t : Config.TxTiming) (bits : Nat → Bool) {k : Nat} (hk : k < 65) :
    (frameTrace t false bits)[2 + 2 * k]? = some ⟨true, highTime t (bits k)⟩ := by
  have hpairs := getElem?_flatMap_pair (fun k => (⟨true, highTime t (bits k)⟩ : Segment))
    (fun k => ⟨false, highTime t !bits k⟩) (List.range 65) k
  have hframe : frameTrace t false bits = [⟨true, t.tSyncHigh⟩, ⟨false, t.tSyncLow⟩] ++
      ((List.range 65).flatMap fun k => [⟨true, highTime t (bits k)⟩, ⟨false, highTime t !bits k⟩]) ++ lowFor t.tGap := by
    simp only [frameTrace, pairOf_eq]
    rfl
  rw [List.getElem?_range hk] at hpairs
  obtain ⟨hlen, -⟩ := List.getElem?_eq_some_iff.1 hpairs
  rw [hframe, List.append_assoc, List.getElem?_append_right (by simp), List.getElem?_append_left (by simpa using hlen)]
  simpa using hpairs

theorem emitFrame_trace_high {t : Config.TxTiming} (h : ValidTiming t) {s : State} (hs : s.trace = []) {k : Nat}
    (hk : k < 65) (x : Segment) :
    (emitFrame t false s).trace.getD (2 + 2 * k) x = ⟨true, highTime t (txfBit s k)⟩ := by
  rw [emitFrame_trace, filter_frameSegments h, hs, List.nil_append, List.getD_eq_getElem?_getD,
    getElem?_frameTrace_bare t _ hk, Option.getD_some]

/-! ## A duration in a scaled band, and bytes by their bits -/

/-- `div` is monotone, so the sample of a duration is in the band around it at every unit scale. -/
theorem inBand_of_div {d : Sample} {us tol m : Nat} (hd : d.toNat = us / m) (hmax : (us + tol) / m < 2 ^ 16) :
    inBand d (BitVec.ofNat 16 ((us - tol) / m)) (BitVec.ofNat 16 ((us + tol) / m)) = true := by
  have hlo : (us - tol) / m ≤ us / m := Nat.div_le_div_right (Nat.sub_le us tol)
  have hhi : us / m ≤ (us + tol) / m := Nat.div_le_div_right (Nat.le_add_right us tol)
  rw [inBand_iff, BitVec.toNat_ofNat, BitVec.toNat_ofNat, Nat.mod_eq_of_lt hmax, Nat.mod_eq_of_lt (by omega), hd]
  exact ⟨hlo, hhi⟩

theorem fbAt_eq_txfAt_of_bits {t u : State} {j : Nat} (h : ∀ i < 8, fbBit t (8 * j + i) = txfBit u (8 * j + i)) :
    fbAt t j = txfAt u j := by
  refine BitVec.eq_of_getLsbD_eq fun i hi => ?_
  have hbit := h (7 - i) (by omega)
  rwa [fbBit, txfBit, show (8 * j + (7 - i)) / 8 = j by omega, show 7 - (8 * j + (7 - i)) % 8 = i by omega] at hbit

/-- Behind the 65 data bits the trailer has zeros only. -/
theorem txfBit_buildFrame_tail (id : BitVec 24) (node : BitVec 8) (code : BitVec 16) (s : State) {k : Nat} (hk : 65 ≤ k)
    (hlt : k < 72) : txfBit (buildFrame id node code s) k = false := by
  have htrailer : txfAt (buildFrame id node code s) 8 = 0x80 := txfAt_buildFrame id node code s (Nat.lt_add_one 8)
  rw [txfBit, show k / 8 = 8 by omega, htrailer]
  interval_cases k <;> rfl

/-- A `done` DECODE of the 65 data bits of a built frame holds its nine bytes. -/
theorem fbAt_eq_txfAt_buildFrame {id : BitVec 24} {node : BitVec 8} {code : BitVec 16} {s t : State}
    (hbits : ∀ k < 65, fbBit t k = txfBit (buildFrame id node code s) k) (hzero : ∀ k, 65 ≤ k → k < 128 → fbBit t k = false)
    {j : Nat} (hj : j < 9) : fbAt t j = txfAt (buildFrame id node code s) j := by
  refine fbAt_eq_txfAt_of_bits fun i hi => ?_
  rcases Nat.lt_or_ge (8 * j + i) 65 with hlt | hge
  · exact hbits _ hlt
  · rw [hzero _ hge (by omega), txfBit_buildFrame_tail id node code s hge (by omega)]

end Sys2Proof.Machine

namespace Sys2Proof

open Machine Claims

/-- Settles O42: the examined samples are the high segments' durations, each in the band of its bit. -/
theorem decoderRecoversTheTransmittedFrame : Obligations.DecoderRecoversTheTransmittedFrame := by
  intro tm id node code s r m ts tl count start htiming _ hapart hmax hcount hstart htrace hsamples
  have hlong : (tm.tLong - tl) / m ≤ (tm.tLong + tl) / m := Nat.div_le_div_right (by omega)
  have hpass : DecodeChecksPass 65 count (BitVec.ofNat 16 ((tm.tShort - ts) / m)) (BitVec.ofNat 16 ((tm.tShort + ts) / m))
      (BitVec.ofNat 16 ((tm.tLong - tl) / m)) (BitVec.ofNat 16 ((tm.tLong + tl) / m)) r := by
    refine ⟨by decide, hcount, ?_⟩
    have hsmax : (BitVec.ofNat 16 ((tm.tShort + ts) / m)).toNat = (tm.tShort + ts) / m := Nat.mod_eq_of_lt (by omega)
    have hlmin : (BitVec.ofNat 16 ((tm.tLong - tl) / m)).toNat = (tm.tLong - tl) / m := Nat.mod_eq_of_lt (by omega)
    omega
  obtain ⟨t, he, hframe, ⟨hok, -⟩, hbits, hzero⟩ :=
    decode_of_bits (start := start) (bits := txfBit (buildFrame id node code s)) hpass fun k hk => by
      have hk : k < 65 := hk
      have hd := hsamples k hk
      rw [emitFrame_trace_high (s := buildFrame id node code s) htiming htrace hk] at hd
      refine (examineBit_eq_ok_iff_inBand hpass.overlap_eq_false).2 ⟨by omega, ?_⟩
      cases hbit : txfBit (buildFrame id node code s) k with
      | false =>
        rw [hbit] at hd
        exact .inl ⟨rfl, inBand_of_div hd (by omega)⟩
      | true =>
        rw [hbit] at hd
        exact .inr ⟨rfl, inBand_of_div hd (by omega)⟩
  have hbytes (j : Nat) (hj : j < 9) : fbAt t j = txfAt (buildFrame id node code s) j :=
    fbAt_eq_txfAt_buildFrame hbits hzero hj
  obtain ⟨-, hholds⟩ := holdsFrame_buildFrame id node code s
  exact ⟨t, he, hok, by rw [hframe], hbytes, fun j hj => by rw [hbytes j hj, hholds j hj]⟩

end Sys2Proof
end

section
/-! The command mapping over the OPEN codes (42_frame_check.md R154), and the byte sum and the fields of the frame in FB as
numbers (R152, R155). -/

namespace Sys2Proof.Machine

open Claims

/-! ## Command codes -/

/-- R5's constraint: the four codes are told apart whatever the OPEN ones are. -/
theorem cmdCodes_distinct :
    Config.cmdCodes.down ≠ Config.cmdUp ∧ Config.cmdCodes.stop ≠ Config.cmdUp ∧ Config.cmdCodes.release ≠ Config.cmdUp ∧
      Config.cmdCodes.stop ≠ Config.cmdCodes.down ∧ Config.cmdCodes.release ≠ Config.cmdCodes.down ∧
      Config.cmdCodes.release ≠ Config.cmdCodes.stop := by
  have hd : Config.cmdCodes.distinct = true := by
    unfold Config.cmdCodes
    split
    · assumption
    · decide
  simp only [Config.CmdCodes.distinct, Bool.and_eq_true, bne_iff_ne] at hd
  obtain ⟨⟨⟨⟨⟨hdu, hsu⟩, hru⟩, hds⟩, hdr⟩, hsr⟩ := hd
  exact ⟨hdu, hsu, hru, hds.symm, hdr.symm, hsr.symm⟩

theorem cmdMap_down : cmdMap Config.cmdCodes.down = .down := by
  obtain ⟨hup, -⟩ := cmdCodes_distinct
  exact (if_neg hup).trans (if_pos rfl)

theorem cmdMap_stop : cmdMap Config.cmdCodes.stop = .stop := by
  obtain ⟨-, hup, -, hdown, -⟩ := cmdCodes_distinct
  exact (if_neg hup).trans ((if_neg hdown).trans (if_pos rfl))

theorem cmdMap_release : cmdMap Config.cmdCodes.release = .release := by
  obtain ⟨-, -, hup, -, hdown, hstop⟩ := cmdCodes_distinct
  exact (if_neg hup).trans ((if_neg hdown).trans ((if_neg hstop).trans (if_pos rfl)))

theorem cmdMap_unlisted {c : BitVec 16} (hup : c ≠ 0x000B) (hdown : c ≠ Config.cmdCodes.down)
    (hstop : c ≠ Config.cmdCodes.stop) (hrelease : c ≠ Config.cmdCodes.release) : cmdMap c = .unknown :=
  (if_neg hup).trans ((if_neg hdown).trans ((if_neg hstop).trans (if_neg hrelease)))

theorem code_cmdMap (c : BitVec 16) : (cmdMap c).code = commandOf c := by
  simp only [cmdMap, cmdMapWith, apply_ite Command.code]
  rfl

/-! ## The byte sum -/

theorem byteSum_toNat (xs : List Byte) : (byteSum xs).toNat = (xs.map BitVec.toNat).sum % 256 := by
  simp [byteSum]

theorem byteSum_fbRange_toNat (s : State) (lo hi : Nat) :
    (byteSum (fbRange s lo hi)).toNat = (∑ j ∈ Finset.Icc lo hi, (fbAt s j).toNat) % 256 := by
  rw [byteSum_toNat, fbRange, List.map_map, ← Finset.Ico_add_one_right_eq_Icc, Finset.sum_Ico_eq_sum_range]
  rfl

theorem frameSum_toNat (s : State) : (frameSum s).toNat = fbSum s := by
  rw [frameSum, byteSum_toNat, fbSum]
  simp [fbRange, List.range_succ, Nat.add_assoc]

theorem frameSum_eq_iff (s : State) (x : Byte) : frameSum s = x ↔ fbSum s = x.toNat := by
  rw [← BitVec.toNat_inj, frameSum_toNat]

theorem frameSum_eq_ofNat (s : State) : frameSum s = BitVec.ofNat 8 (fbSum s) := by
  rw [← frameSum_toNat, BitVec.ofNat_toNat, BitVec.setWidth_eq]

theorem goodFrame_iff (s : State) :
    GoodFrame s ↔ 64 ≤ s.fbBits.toNat ∧ fbAt s 0 = Config.txHeader ∧ frameSum s = fbAt s 7 := by
  rw [GoodFrame, frameSum_eq_iff]
  rfl

/-! ## The fields -/

theorem frameId_toNat (s : State) :
    (frameId s).toNat = (fbAt s 1).toNat * 65536 + (fbAt s 2).toNat * 256 + (fbAt s 3).toNat := by
  rw [frameId, BitVec.toNat_append, BitVec.toNat_append, ← Nat.shiftLeft_add_eq_or_of_lt (fbAt s 3).isLt,
    ← Nat.shiftLeft_add_eq_or_of_lt (fbAt s 2).isLt, Nat.shiftLeft_eq, Nat.shiftLeft_eq]
  ring

theorem frameCode_toNat (s : State) : (frameCode s).toNat = (fbAt s 5).toNat * 256 + (fbAt s 6).toNat := by
  rw [frameCode, BitVec.toNat_append, ← Nat.shiftLeft_add_eq_or_of_lt (fbAt s 6).isLt, Nat.shiftLeft_eq]

end Sys2Proof.Machine
end

section
/-! GATE, CHKSUM, RXCHK, EMIT and CONSUME (42_frame_check.md R151, R153, R155, R158, R159): one equation per ending. -/

namespace Sys2Proof.Machine

open Claims

variable {s : State}

theorem exec_gate_in {lo hi : BitVec 16} (hlo : lo.toNat ≤ s.number.toNat) (hhi : s.number.toNat ≤ hi.toNat) :
    exec (.gate lo hi) s = done s :=
  if_pos ((inGate_iff ..).2 ⟨hlo, hhi⟩)

theorem exec_gate_out {lo hi : BitVec 16} (h : s.number.toNat < lo.toNat ∨ hi.toNat < s.number.toNat) :
    exec (.gate lo hi) s = reject .count s := by
  refine if_neg fun hin => ?_
  obtain ⟨hlo, hhi⟩ := (inGate_iff ..).1 hin
  omega

theorem exec_chksum {lo hi : BitVec 8} (hle : lo.toNat ≤ hi.toNat) (hbits : 8 * hi.toNat < s.fbBits.toNat) :
    exec (.chksum lo hi) s = done { s with sum := byteSum (fbRange s lo.toNat hi.toNat) } :=
  (if_neg (Nat.not_lt.2 hle)).trans (if_neg (Nat.not_le.2 hbits))

/-- What RXCHK writes of a good frame, but for ST. -/
def extractFrame (s : State) : State :=
  { s with
    sum := frameSum s
    rxId := frameId s
    rxNode := fbAt s 4
    rxCode := frameCode s
    rxCmd := (cmdMap (frameCode s)).code
    rxValid := true }

theorem exec_rxchk_header (hbits : 64 ≤ s.fbBits.toNat) (h : fbAt s 0 ≠ Config.txHeader) :
    exec .rxchk s = reject .header (forgetRx { s with sum := frameSum s }) :=
  (if_neg (Nat.not_lt.2 hbits)).trans (if_pos h)

theorem exec_rxchk_checksum (hbits : 64 ≤ s.fbBits.toNat) (hheader : fbAt s 0 = Config.txHeader)
    (h : fbSum s ≠ (fbAt s 7).toNat) : exec .rxchk s = reject .checksum (forgetRx { s with sum := frameSum s }) :=
  (if_neg (Nat.not_lt.2 hbits)).trans ((if_neg (not_not.2 hheader)).trans (if_pos (mt (frameSum_eq_iff ..).1 h)))

theorem exec_rxchk_good (h : GoodFrame s) : exec .rxchk s = done (extractFrame s) := by
  obtain ⟨hbits, hheader, hsum⟩ := (goodFrame_iff s).1 h
  exact (if_neg (Nat.not_lt.2 hbits)).trans ((if_neg (not_not.2 hheader)).trans (if_neg (not_not.2 hsum)))

theorem exec_emit_record (proto : BitVec 8) (hvalid : s.rxValid = true) (h : s.rxCmd ≠ Command.release.code) :
    exec (.emit proto) s = done (emitRecord ⟨proto, s.rxId, s.rxNode, s.rxCmd⟩ s) :=
  (if_pos hvalid).trans (if_neg h)

theorem exec_emit_release (proto : BitVec 8) (hvalid : s.rxValid = true) (h : s.rxCmd = Command.release.code) :
    exec (.emit proto) s = done s :=
  (if_pos hvalid).trans (if_pos h)

/-- The answer of CONSUME, in every state. -/
def consumed (z : Bool) (s : State) : State :=
  setAnswer true false .none { s with repeats := true, number := if z then 0 else s.number }

theorem exec_consume (z : Bool) (s : State) : exec (.consume z) s = .next (consumed z s) := rfl

@[simp] theorem consumed_cfgErr (z : Bool) (s : State) : (consumed z s).cfgErr = s.cfgErr := by
  simp [consumed, State.cfgErr]

theorem consumed_number (z : Bool) {s u : State} (h : u.number = s.number) :
    (consumed z u).number = if z then 0 else s.number := by
  rw [← h]
  rfl

end Sys2Proof.Machine

namespace Sys2Proof

open Machine Claims

/-- Settles O25. -/
theorem gateTestsThePulseCount : Obligations.GateTestsThePulseCount := fun _ _ _ =>
  ⟨fun hlo hhi => ends_of_setAnswer (r := .none) (exec_gate_in hlo hhi) rfl,
    fun h => ends_of_setAnswer (r := .count) (exec_gate_out h) rfl⟩

/-- Settles O26: the list the model sums is the range FB[lo..hi]. -/
theorem chksumSumsTheRange : Obligations.ChksumSumsTheRange := fun _ _ s =>
  ⟨fun h => faults_of_markConfigFault (c := .operandRange) (if_pos h),
    fun hle h => faults_of_markConfigFault (c := .bufferState) ((if_neg (Nat.not_lt.2 hle)).trans (if_pos h)),
    fun hle hbits => ⟨_, byteSum_fbRange_toNat s _ _, ends_of_setAnswer (r := .none) (exec_chksum hle hbits) rfl⟩⟩

/-- Settles O27, by the four endings of RXCHK. -/
theorem rxchkChecksAndExtracts : Obligations.RxchkChecksAndExtracts := by
  refine fun s => ⟨fun h => faults_of_markConfigFault (c := .bufferState) (if_pos h), fun hbits reason hbad => ?_,
    fun hgood => ?_⟩
  · rcases hbad with ⟨hheader, rfl⟩ | ⟨hheader, hsum, rfl⟩
    · refine ⟨_, exec_rxchk_header hbits hheader, ?_, answered_setAnswer (r := .header) rfl⟩
      rw [← frameSum_eq_ofNat]
      rfl
    · refine ⟨_, exec_rxchk_checksum hbits hheader hsum, ?_, answered_setAnswer (r := .checksum) rfl⟩
      rw [← frameSum_eq_ofNat]
      rfl
  · obtain ⟨-, -, hsum⟩ := (goodFrame_iff s).1 hgood
    refine ⟨_, exec_rxchk_good hgood, ?_, answered_setAnswer (r := .none) rfl, frameId_toNat s, frameCode_toNat s⟩
    rw [← hsum, ← code_cmdMap]
    rfl

/-- Settles O30. -/
theorem emitHandsTheRecordToTheSink : Obligations.EmitHandsTheRecordToTheSink := fun proto _ =>
  ⟨fun h => faults_of_markConfigFault (c := .bufferState) (if_neg (Bool.eq_false_iff.1 h)),
    fun hvalid h => ends_of_setAnswer (r := .none) (exec_emit_record proto hvalid h) rfl,
    fun hvalid h => ends_of_setAnswer (r := .none) (exec_emit_release proto hvalid h) rfl⟩

/-- Settles O32: with NUMBER 0 every DECODE that counts a pulse, every CLASSIFYP and every GATE from 1 on falls short. -/
theorem consumeMarksTheBuffer : Obligations.ConsumeMarksTheBuffer := by
  refine fun z s => ⟨ends_of_setAnswer (r := .none) (exec_consume z s) rfl, fun t ht => ?_⟩
  have hnumber : t.number.toNat = 0 := by
    rw [exec_consume] at ht
    cases ht
    rfl
  refine ⟨fun _ _ _ _ _ _ _ hn hc => ?_, fun i => ?_, fun _ _ hlo => ?_⟩
  · exact faults_of_markConfigFault (c := .bufferState) (exec_decode_count hn (by omega))
  · exact faults_classifyp_index (by omega)
  · exact ends_of_setAnswer (r := .count) (exec_gate_out (.inl (by omega))) rfl

/-- Settles O28: R5 keeps the OPEN codes apart, and an unlisted code does not stop a good frame. -/
theorem rawCodesMapToTheirCommands : Obligations.RawCodesMapToTheirCommands := by
  refine ⟨rfl, cmdMap_down, cmdMap_stop, cmdMap_release, fun _ => cmdMap_unlisted, fun s hgood hunknown => ?_⟩
  have hcmd : (cmdMap (frameCode s)).code = 0 := congrArg Command.code hunknown
  exact ⟨_, exec_rxchk_good hgood, setAnswer_ok .., rfl, hcmd⟩

end Sys2Proof
end

section
/-! One inverted bit in FB (42_frame_check.md R162): the byte sum of FB[1..6] tells each byte of the range from any other value
of it, and RXCHK reads no byte from FB[8] on. -/

namespace Sys2Proof.Machine

open Claims

variable {s : State} {j k : Nat} {v : Byte}

theorem xor_bit_ne (hk : k < 8) (x : Byte) : x ^^^ (1#8 <<< k) ≠ x := by
  intro h
  have hbit := congrArg (·.getLsbD k) h
  simp [hk] at hbit

/-- The sum changes with any one byte of its range, since a byte is less than 256. -/
theorem fbSum_fbWrite_ne (hlo : 1 ≤ j) (hhi : j ≤ 6) (hv : v ≠ fbAt s j) : fbSum (fbWrite j v s) ≠ fbSum s := by
  have hv' : v.toNat ≠ (fbAt s j).toNat := mt BitVec.eq_of_toNat_eq hv
  have hlt : (fbAt s j).toNat < 256 := (fbAt s j).isLt
  have hvlt : v.toNat < 256 := v.isLt
  interval_cases j <;> simp [fbSum, fbAt_fbWrite_same, fbAt_fbWrite_other] <;> omega

theorem fbSum_fbWrite (hj : j = 0 ∨ 7 ≤ j) : fbSum (fbWrite j v s) = fbSum s := by
  have hother (i : Nat) (hlo : 1 ≤ i) (hhi : i ≤ 6) : fbAt (fbWrite j v s) i = fbAt s i :=
    fbAt_fbWrite_other (by omega) v s
  simp [fbSum, hother]

theorem exec_rxchk_flip_header (h : GoodFrame s) (hk : k < 8) :
    ∃ t, exec .rxchk (flipFb s 0 k) = .next t ∧ Answered s t false false 4 := by
  obtain ⟨hbits, hheader, -⟩ := h
  have hne : fbAt (flipFb s 0 k) 0 ≠ Config.txHeader := by
    rw [flipFb, fbAt_fbWrite_same]
    exact fun hx => xor_bit_ne hk _ (hx.trans hheader.symm)
  exact ⟨_, exec_rxchk_header hbits hne, answered_setAnswer (r := .header) rfl⟩

theorem exec_rxchk_flip_sum (h : GoodFrame s) (hlo : 1 ≤ j) (hhi : j ≤ 7) (hk : k < 8) :
    ∃ t, exec .rxchk (flipFb s j k) = .next t ∧ Answered s t false false 5 := by
  obtain ⟨hbits, hheader, hsum⟩ := h
  have hheader' : fbAt (flipFb s j k) 0 = Config.txHeader := (fbAt_fbWrite_other (by omega) _ s).trans hheader
  have hne : fbSum (flipFb s j k) ≠ (fbAt (flipFb s j k) 7).toNat := by
    rcases Nat.lt_or_ge j 7 with hlt | hge
    · rw [flipFb, fbAt_fbWrite_other (by omega), ← hsum]
      exact fbSum_fbWrite_ne hlo (by omega) (xor_bit_ne hk _)
    · obtain rfl : j = 7 := by omega
      rw [flipFb, fbSum_fbWrite (.inr le_rfl), fbAt_fbWrite_same, hsum]
      exact fun hx => xor_bit_ne hk _ (BitVec.eq_of_toNat_eq hx.symm)
  exact ⟨_, exec_rxchk_checksum hbits hheader' hne, answered_setAnswer (r := .checksum) rfl⟩

/-- A byte from FB[8] on changes nothing in what RXCHK answers of a good frame. -/
theorem exec_rxchk_fbWrite (h : GoodFrame s) (hj : 8 ≤ j) :
    ∃ t, exec .rxchk s = .next t ∧ exec .rxchk (fbWrite j v s) = .next { t with fb := (fbWrite j v s).fb } := by
  have hother (i : Nat) (hi : i < 8) : fbAt (fbWrite j v s) i = fbAt s i := fbAt_fbWrite_other (by omega) v s
  have hsum : fbSum (fbWrite j v s) = fbSum s := fbSum_fbWrite (.inr (by omega))
  have hgood : GoodFrame (fbWrite j v s) := by
    rw [GoodFrame, hother 0 (by decide), hother 7 (by decide), hsum]
    exact h
  have hextract : extractFrame (fbWrite j v s) = { extractFrame s with fb := (fbWrite j v s).fb } := by
    simp only [extractFrame, frameSum_eq_ofNat, hsum, frameId, frameCode, hother, Nat.reduceLT]
    rfl
  refine ⟨_, exec_rxchk_good h, ?_⟩
  rw [exec_rxchk_good hgood, hextract]
  rfl

/-- A good frame in which FB[1] and FB[2] differ in bit 0. -/
def oneAndZero : State := { State.reset with fbBits := 64, fb := Memory.ofList (frameBytes 0x010000 0 0) }

/-- The two inverted bits leave the sum as it was. -/
theorem oneAndZero_good : GoodFrame oneAndZero ∧ GoodFrame (flipFb (flipFb oneAndZero 1 0) 2 0) :=
  ⟨⟨by decide, by decide, by decide⟩, by decide, by decide, by decide⟩

end Sys2Proof.Machine

namespace Sys2Proof

open Machine Claims

/-- Settles O29, by the byte the inverted bit is in. -/
theorem singleBitErrorsAreCaught : Obligations.SingleBitErrorsAreCaught := by
  obtain ⟨hgood, hflipped⟩ := oneAndZero_good
  refine ⟨fun s j k h _ hk => ⟨fun hlo hhi => exec_rxchk_flip_sum h hlo hhi hk, ?_, ?_⟩,
    oneAndZero, 1, 0, 2, 0, hgood, by decide, by decide, by decide, by decide, by decide, by decide, by decide, hflipped⟩
  · rintro rfl
    exact exec_rxchk_flip_header h hk
  · rintro rfl
    exact exec_rxchk_fbWrite h le_rfl

end Sys2Proof
end

section
/-! The reference receive sequence (42_frame_check.md R160): each of its endings, said once, and what GATE, DECODE and RXCHK
leave alone on the way (R161). -/

namespace Sys2Proof.Machine

open Claims

/-! ## Issuing operations one after another -/

theorem andThen_eq_next {α : Type} {x : Answer} {f : State → Host.Outcome α Fault Refusal} {y : α} :
    andThen x f = .next y ↔ ∃ t, x = .next t ∧ f t = .next y := by
  cases x <;> simp [andThen]

theorem issueOr_eq_next {i : Instr} {s t : State} {result : RxResult}
    {k : State → Host.Outcome (RxResult × State) Fault Refusal} :
    issueOr i s k = .next (result, t) ↔
      (exec i s = .next t ∧ t.ok = false ∧ result = .rejected) ∨
        ∃ u, exec i s = .next u ∧ u.ok = true ∧ k u = .next (result, t) := by
  rw [issueOr, andThen_eq_next]
  constructor
  · rintro ⟨u, he, hk⟩
    cases hok : u.ok with
    | true => exact .inr ⟨u, he, hok, by simpa [hok] using hk⟩
    | false =>
      simp only [hok] at hk
      cases hk
      exact .inl ⟨he, hok, rfl⟩
  · rintro (⟨he, hok, rfl⟩ | ⟨u, he, hok, hk⟩)
    · exact ⟨t, he, by simp [hok]⟩
    · exact ⟨u, he, by simpa [hok] using hk⟩

theorem issueOr_of_ok {i : Instr} {s t : State} (k : State → Host.Outcome (RxResult × State) Fault Refusal)
    (h : exec i s = .next t) (hok : t.ok = true) : issueOr i s k = k t := by
  rw [issueOr, h, andThen_next, if_pos hok]

theorem issueLast_consume (z : Bool) (result : RxResult) (s : State) :
    issueLast (.consume z) result s = .next (result, consumed z s) := rfl

/-! ## What the way to RXCHK leaves alone -/

/-- What GATE, DECODE and RXCHK do not write: the buffer, the duplicate slot and the hashes, EVENTS (R161). -/
structure ReceiveFrame (s t : State) : Prop where
  number : t.number = s.number
  repeats : t.repeats = s.repeats
  fpLast : t.fpLast = s.fpLast
  tLast : t.tLast = s.tLast
  fpValid : t.fpValid = s.fpValid
  hash : t.hash = s.hash
  hashPrev : t.hashPrev = s.hashPrev
  events : t.events = s.events
  pulse : t.pulse = s.pulse

theorem ReceiveFrame.trans {s t u : State} (h : ReceiveFrame s t) (h' : ReceiveFrame t u) : ReceiveFrame s u where
  number := h'.number.trans h.number
  repeats := h'.repeats.trans h.repeats
  fpLast := h'.fpLast.trans h.fpLast
  tLast := h'.tLast.trans h.tLast
  fpValid := h'.fpValid.trans h.fpValid
  hash := h'.hash.trans h.hash
  hashPrev := h'.hashPrev.trans h.hashPrev
  events := h'.events.trans h.events
  pulse := h'.pulse.trans h.pulse

theorem receiveFrame_gate {lo hi : BitVec 16} {s t : State} (h : exec (.gate lo hi) s = .next t) : ReceiveFrame s t := by
  cases answers_of_exec h with
  | configFault | gateIn | gateOut => exact ⟨rfl, rfl, rfl, rfl, rfl, rfl, rfl, rfl, rfl⟩

theorem receiveFrame_decode {nbits : BitVec 8} {count start smin smax lmin lmax : BitVec 16} {s t : State}
    (h : exec (.decode nbits count start smin smax lmin lmax) s = .next t) : ReceiveFrame s t := by
  cases answers_of_exec h with
  | configFault | decodeBad => exact ⟨rfl, rfl, rfl, rfl, rfl, rfl, rfl, rfl, rfl⟩
  | decodeOk _ _ _ _ _ _ _ _ _ _ _ hloop =>
    rw [decodeBits_frame hloop]
    exact ⟨rfl, rfl, rfl, rfl, rfl, rfl, rfl, rfl, rfl⟩

theorem receiveFrame_rxchk {s t : State} (h : exec .rxchk s = .next t) : ReceiveFrame s t := by
  cases answers_of_exec h with
  | configFault | rxchkHeader | rxchkChecksum | rxchkOk => exact ⟨rfl, rfl, rfl, rfl, rfl, rfl, rfl, rfl, rfl⟩

/-- An RXCHK with OK = 1 checked a packet, or has marked the state and left OK as it was. -/
theorem rxValid_of_rxchk_ok {s t : State} (h : exec .rxchk s = .next t) (hok : t.ok = true) (hmark : t.cfgErr = false) :
    t.rxValid = true := by
  cases answers_of_exec h with
  | configFault => simp at hmark
  | rxchkHeader | rxchkChecksum => simp at hok
  | rxchkOk => rfl

/-! ## The duplicate test -/

theorem isDuplicate_iff (fp now : BitVec 32) (window : BitVec 16) (s : State) :
    isDuplicate Config.hashGatesDup fp now window s = true ↔ KnownRepeat s fp now window := by
  simp only [isDuplicate, Config.hashGatesDup, inWindow, age_toNat, KnownRepeat, Bool.and_eq_true, beq_iff_eq,
    decide_eq_true_eq, Bool.not_true, Bool.false_or]
  tauto

theorem ReceiveFrame.knownRepeat_iff {s t : State} (h : ReceiveFrame s t) (fp now : BitVec 32) (window : BitVec 16) :
    KnownRepeat t fp now window ↔ KnownRepeat s fp now window := by
  rw [KnownRepeat, KnownRepeat, h.fpValid, h.fpLast, h.tLast, h.hash, h.hashPrev]

/-- The state in which the slot holds the fingerprint and its time. -/
def remembered (fp now : BitVec 32) (s : State) : State :=
  setAnswer true false .none { s with fpLast := fp, tLast := now, fpValid := true }

theorem exec_dedup_known {fp now : BitVec 32} {window : BitVec 16} {s : State} (h : KnownRepeat s fp now window) :
    exec (.dedup fp now window) s = doneDup s :=
  if_pos ((isDuplicate_iff ..).2 h)

theorem exec_dedup_new {fp now : BitVec 32} {window : BitVec 16} {s : State} (h : ¬ KnownRepeat s fp now window) :
    exec (.dedup fp now window) s = .next (remembered fp now s) :=
  if_neg (mt (isDuplicate_iff ..).1 h)

@[simp] theorem remembered_cfgErr (fp now : BitVec 32) (s : State) : (remembered fp now s).cfgErr = s.cfgErr := by
  simp [remembered, State.cfgErr]

/-! ## The endings -/

/-- `Received s r`: what is known of a state `r` to which GATE, DECODE and RXCHK led from `s` with ST.OK = 1 after each. -/
structure Received (s r : State) : Prop where
  frame : ReceiveFrame s r
  rxValid : r.cfgErr = false → r.rxValid = true

/-- The fingerprint RXSEQ takes of the checked packet (R160). -/
def rxFingerprint (r : State) : BitVec 32 := Config.fpFn r.rxId r.rxNode r.rxCode

/-- The answer of EMIT for a checked packet that is no Release. -/
def emitted (proto : BitVec 8) (s : State) : State :=
  setAnswer true false .none (emitRecord ⟨proto, s.rxId, s.rxNode, s.rxCmd⟩ s)

@[simp] theorem emitted_cfgErr (proto : BitVec 8) (s : State) : (emitted proto s).cfgErr = s.cfgErr := by
  simp [emitted, State.cfgErr]

/-- `RxSeqEnds a s result t`: the reference sequence can end in `t` with `result`. One constructor per path of R160; on the
last one a ConfigFault stood between the operations, RXVALID is 0 and so EMIT raises. -/
inductive RxSeqEnds (a : RxSeqArgs) (s : State) : RxResult → State → Prop
  | rejected {t : State} (hframe : ReceiveFrame s t) (hok : t.ok = false) : RxSeqEnds a s .rejected t
  | noEvent {r : State} (hr : Received s r) (hcmd : r.rxCmd = Command.release.code) :
      RxSeqEnds a s .acceptedNoEvent (consumed a.z r)
  | duplicate {r : State} (hr : Received s r) (hcmd : r.rxCmd ≠ Command.release.code)
      (hknown : KnownRepeat r (rxFingerprint r) a.now a.window) :
      RxSeqEnds a s .acceptedDuplicate (consumed a.z (setAnswer true true .none r))
  | accepted {r : State} (hr : Received s r) (hcmd : r.rxCmd ≠ Command.release.code) :
      RxSeqEnds a s .accepted (consumed a.z (emitted a.proto (remembered (rxFingerprint r) a.now r)))
  | unchecked {r : State} (hr : Received s r) (hcmd : r.rxCmd ≠ Command.release.code) :
      RxSeqEnds a s .accepted (consumed a.z (markConfigFault .bufferState (remembered (rxFingerprint r) a.now r)))

theorem rxSeqAccept_known {a : RxSeqArgs} {r : State} (h : KnownRepeat r (rxFingerprint r) a.now a.window) :
    rxSeqAccept Config.fpFn a r = .next (.acceptedDuplicate, consumed a.z (setAnswer true true .none r)) := by
  rw [rxSeqAccept, ← rxFingerprint, exec_dedup_known h, doneDup_eq, andThen_next, setAnswer_dup, if_pos rfl,
    issueLast_consume]

theorem rxSeqAccept_new {a : RxSeqArgs} {r : State} (h : ¬ KnownRepeat r (rxFingerprint r) a.now a.window) :
    rxSeqAccept Config.fpFn a r =
      andThen (exec (.emit a.proto) (remembered (rxFingerprint r) a.now r)) (issueLast (.consume a.z) .accepted) := by
  rw [rxSeqAccept, ← rxFingerprint, exec_dedup_new h, andThen_next, remembered, setAnswer_dup]
  rfl

theorem rxSeqAccept_checked {a : RxSeqArgs} {r : State} (h : ¬ KnownRepeat r (rxFingerprint r) a.now a.window)
    (hvalid : r.rxValid = true) (hcmd : r.rxCmd ≠ Command.release.code) :
    rxSeqAccept Config.fpFn a r =
      .next (.accepted, consumed a.z (emitted a.proto (remembered (rxFingerprint r) a.now r))) := by
  rw [rxSeqAccept_new h, exec_emit_record (s := remembered (rxFingerprint r) a.now r) a.proto hvalid hcmd, done_eq,
    andThen_next]
  rfl

theorem rxSeqAccept_unchecked {a : RxSeqArgs} {r : State} (h : ¬ KnownRepeat r (rxFingerprint r) a.now a.window)
    (hvalid : r.rxValid = false) :
    rxSeqAccept Config.fpFn a r =
      .next (.accepted, consumed a.z (markConfigFault .bufferState (remembered (rxFingerprint r) a.now r))) := by
  have he : exec (.emit a.proto) (remembered (rxFingerprint r) a.now r) = raise .bufferState _ :=
    if_neg (Bool.eq_false_iff.1 hvalid)
  rw [rxSeqAccept_new h, he, raise_eq, andThen_next, issueLast_consume]

/-- Of a packet that is no Release the sequence is its steps 5 to 7 (R160). -/
theorem rxSeq_of_ok {a : RxSeqArgs} {s s1 s2 r : State}
    (hgate : exec (.gate Config.rxCountMin Config.rxCountMax) s = .next s1) (hok1 : s1.ok = true)
    (hdecode : exec (.decode (BitVec.ofNat 8 Config.txDataBits) s1.number Config.rxStart a.smin a.smax a.lmin a.lmax) s1 =
      .next s2) (hok2 : s2.ok = true)
    (hrxchk : exec .rxchk s2 = .next r) (hok : r.ok = true) (hcmd : r.rxCmd ≠ Command.release.code) :
    rxSeq a s = rxSeqAccept Config.fpFn a r := by
  rw [rxSeq, rxSeqWith, issueOr_of_ok _ hgate hok1, issueOr_of_ok _ hdecode hok2, issueOr_of_ok _ hrxchk hok, if_neg hcmd]

/-- The inversion of the sequence: claims about it are proved by cases on this. -/
theorem rxSeq_ends {a : RxSeqArgs} {s t : State} {result : RxResult} (h : rxSeq a s = .next (result, t)) :
    RxSeqEnds a s result t := by
  rcases issueOr_eq_next.1 h with ⟨hgate, hok, rfl⟩ | ⟨s1, hgate, -, h⟩
  · exact .rejected (receiveFrame_gate hgate) hok
  have hframe1 := receiveFrame_gate hgate
  rcases issueOr_eq_next.1 h with ⟨hdecode, hok, rfl⟩ | ⟨s2, hdecode, -, h⟩
  · exact .rejected (hframe1.trans (receiveFrame_decode hdecode)) hok
  have hframe2 := hframe1.trans (receiveFrame_decode hdecode)
  rcases issueOr_eq_next.1 h with ⟨hrxchk, hok, rfl⟩ | ⟨r, hrxchk, hok, h⟩
  · exact .rejected (hframe2.trans (receiveFrame_rxchk hrxchk)) hok
  have hr : Received s r := ⟨hframe2.trans (receiveFrame_rxchk hrxchk), rxValid_of_rxchk_ok hrxchk hok⟩
  split at h
  · rename_i hcmd
    cases h
    exact .noEvent hr hcmd
  · rename_i hcmd
    by_cases hknown : KnownRepeat r (rxFingerprint r) a.now a.window
    · rw [rxSeqAccept_known hknown] at h
      cases h
      exact .duplicate hr hcmd hknown
    · cases hvalid : r.rxValid with
      | true =>
        rw [rxSeqAccept_checked hknown hvalid hcmd] at h
        cases h
        exact .accepted hr hcmd
      | false =>
        rw [rxSeqAccept_unchecked hknown hvalid] at h
        cases h
        exact .unchecked hr hcmd

end Sys2Proof.Machine

namespace Sys2Proof

open Machine Claims

/-- Settles O43: on every path to Rejected only GATE, DECODE and RXCHK have run. -/
theorem rejectedSequenceLeavesNoTrace : Obligations.RejectedSequenceLeavesNoTrace := by
  intro a s t h
  cases rxSeq_ends h with
  | rejected hframe hok =>
    exact ⟨hok, hframe.number, hframe.repeats, hframe.fpLast, hframe.tLast, hframe.fpValid, hframe.events, hframe.pulse⟩

/-- Settles O31: after RXCHK no operation of the sequence writes RXCMD, and on a Release only CONSUME follows. -/
theorem releaseIsAcceptedWithoutAnEvent : Obligations.ReleaseIsAcceptedWithoutAnEvent := by
  refine ⟨fun s hgood hcode => ?_, fun a s t result h hresult => ?_⟩
  · have hcmd : (extractFrame s).rxCmd = Command.release.code :=
      congrArg Command.code ((congrArg cmdMap hcode).trans cmdMap_release)
    exact ⟨_, exec_rxchk_good hgood, setAnswer_ok .., rfl, hcmd, fun proto =>
      ⟨_, exec_emit_release proto rfl hcmd, setAnswer_ok .., rfl⟩⟩
  · cases rxSeq_ends h with
    | rejected => exact absurd rfl hresult
    | noEvent hr hcmd =>
      exact ⟨iff_of_true rfl hcmd, fun _ => ⟨hr.frame.events, hr.frame.fpLast, hr.frame.tLast, hr.frame.fpValid⟩⟩
    | duplicate _ hcmd | accepted _ hcmd | unchecked _ hcmd => exact ⟨iff_of_false nofun hcmd, fun h => absurd h hcmd⟩

/-- Settles O44, by the accepting endings; the one with an unchecked packet is marked. -/
theorem acceptingSequenceDoesWhatItsResultSays : Obligations.AcceptingSequenceDoesWhatItsResultSays := by
  intro a s t result h hmark hresult
  cases rxSeq_ends h with
  | rejected => exact absurd rfl hresult
  | unchecked => simp at hmark
  | noEvent hr hcmd =>
    exact ⟨rfl, consumed_number a.z hr.frame.number, hr.rxValid (by simpa using hmark), nofun, nofun,
      fun _ => ⟨hr.frame.events, hcmd, hr.frame.fpLast, hr.frame.tLast, hr.frame.fpValid⟩⟩
  | duplicate hr hcmd hknown =>
    exact ⟨rfl, consumed_number a.z hr.frame.number, hr.rxValid (by simpa using hmark), nofun,
      fun _ => ⟨hr.frame.events, (hr.frame.knownRepeat_iff ..).1 hknown, hr.frame.fpLast, hr.frame.tLast, hr.frame.fpValid⟩,
      nofun⟩
  | accepted hr hcmd =>
    exact ⟨rfl, consumed_number a.z hr.frame.number, hr.rxValid (by simpa using hmark),
      fun _ => ⟨congrArg (· ++ _) hr.frame.events, hcmd, rfl, rfl, rfl⟩, nofun, nofun⟩

end Sys2Proof
end

section
/-! The reference sequence on the capture of one frame (42_frame_check.md R160; 95_test_vectors.md S6): the bits the samples
stand for make the frame in FB, and RXCHK takes its fields back. -/

namespace Sys2Proof.Machine

open Claims

variable {id : BitVec 24} {node : BitVec 8} {code : BitVec 16}

theorem txfBit_buildFrame (s : State) {k : Nat} (hk : k < 72) :
    txfBit (buildFrame id node code s) k = frameBit id node code k := by
  obtain ⟨-, hbytes⟩ := holdsFrame_buildFrame id node code s
  rw [txfBit, frameBit, ← hbytes (k / 8) (by omega)]
  rfl

/-- FB that holds the frame's bits holds its bytes. -/
theorem fbAt_of_frameBits {t : State} (hbits : ∀ k < 65, fbBit t k = frameBit id node code k)
    (hzero : ∀ k, 65 ≤ k → k < 128 → fbBit t k = false) {j : Nat} (hj : j < 9) :
    (fbAt t j).toNat = frameByte id node code j := by
  obtain ⟨-, hbytes⟩ := holdsFrame_buildFrame id node code t
  rw [fbAt_eq_txfAt_buildFrame (s := t) (fun k hk => by rw [hbits k hk, txfBit_buildFrame t (by omega)]) hzero hj, hbytes j hj]

/-- `FrameInFb s id node code`: FB has bits enough for RXCHK, and the bytes of the frame (30_encoding.md R90). -/
structure FrameInFb (s : State) (id : BitVec 24) (node : BitVec 8) (code : BitVec 16) : Prop where
  bits : 64 ≤ s.fbBits.toNat
  bytes : ∀ j < 9, (fbAt s j).toNat = frameByte id node code j

section

variable {s : State} (h : FrameInFb s id node code)

include h

theorem FrameInFb.goodFrame : GoodFrame s := by
  refine ⟨h.bits, BitVec.eq_of_toNat_eq (h.bytes 0 (by decide)), ?_⟩
  simp only [fbSum, h.bytes, Nat.reduceLT]
  rfl

theorem FrameInFb.extractFrame_eq :
    extractFrame s =
      { s with sum := fbAt s 7, rxId := id, rxNode := node, rxCode := code, rxCmd := commandOf code, rxValid := true } := by
  have hid : frameId s = id := BitVec.eq_of_toNat_eq (by
    rw [frameId_toNat, h.bytes 1 (by decide), h.bytes 2 (by decide), h.bytes 3 (by decide)]
    simp only [frameByte]
    omega)
  have hnode : fbAt s 4 = node := BitVec.eq_of_toNat_eq (h.bytes 4 (by decide))
  have hcode : frameCode s = code := BitVec.eq_of_toNat_eq (by
    rw [frameCode_toNat, h.bytes 5 (by decide), h.bytes 6 (by decide)]
    exact Nat.div_add_mod' code.toNat 256)
  obtain ⟨-, -, hsum⟩ := (goodFrame_iff s).1 h.goodFrame
  rw [extractFrame, hid, hnode, hcode, hsum, code_cmdMap]

end

/-- The samples of a 130-pulse capture decide the frame's bits (R136). -/
theorem exec_decode_of_captured {a : RxSeqArgs} {s : State} (hnumber : s.number = 130)
    (hapart : min a.smax.toNat a.lmax.toNat < max a.smin.toNat a.lmin.toNat)
    (hsamples : ∀ k < 65,
      (frameBit id node code k = false → inBand (pulseAt s (1 + 2 * k)) a.smin a.smax = true) ∧
      (frameBit id node code k = true → inBand (pulseAt s (1 + 2 * k)) a.lmin a.lmax = true)) :
    ∃ t, exec (.decode (BitVec.ofNat 8 Config.txDataBits) s.number Config.rxStart a.smin a.smax a.lmin a.lmax) s = .next t ∧
      t.ok = true ∧ t.cfgErr = s.cfgErr ∧ FrameInFb t id node code := by
  have hpass : DecodeChecksPass 65 s.number a.smin a.smax a.lmin a.lmax s := ⟨by decide, le_rfl, hapart⟩
  obtain ⟨t, he, hframe, ⟨hok, -, -, hmark, -⟩, hbits, hzero⟩ :=
    decode_of_bits (start := Config.rxStart) (bits := frameBit id node code) hpass fun k hk => by
      have hk : k < 65 := hk
      have hlast : Config.rxStart.toNat + 2 * k < s.number.toNat := by
        rw [hnumber]
        change 1 + 2 * k < 130
        omega
      obtain ⟨hshort, hlong⟩ := hsamples k hk
      refine (examineBit_eq_ok_iff_inBand hpass.overlap_eq_false).2 ⟨hlast, ?_⟩
      cases hbit : frameBit id node code k with
      | false => exact .inl ⟨rfl, hshort hbit⟩
      | true => exact .inr ⟨rfl, hlong hbit⟩
  have hfbBits : t.fbBits = 65 := by rw [hframe]
  exact ⟨t, he, hok, hmark, by simp [hfbBits], fun j hj => fbAt_of_frameBits hbits hzero hj⟩

end Sys2Proof.Machine

namespace Sys2Proof

open Machine Claims

/-- Settles O45: GATE, DECODE and RXCHK end `done` with the frame's fields, and leave the slot as the premise has it. -/
theorem capturedFrameGivesOneEvent : Obligations.CapturedFrameGivesOneEvent := by
  intro a s id node code hnumber hapart hsamples hcmd hnew
  have hcount : s.number.toNat = 130 := congrArg BitVec.toNat hnumber
  have hgate : exec (.gate Config.rxCountMin Config.rxCountMax) s = done s := exec_gate_in hcount.ge hcount.le
  obtain ⟨t, hdecode, hok, hmark, hfb⟩ :=
    exec_decode_of_captured (a := a) (s := setAnswer true false .none s) hnumber hapart hsamples
  have hrxchk : exec .rxchk t = .next (setAnswer true false .none (extractFrame t)) := exec_rxchk_good hfb.goodFrame
  rw [hfb.extractFrame_eq] at hrxchk
  have hframe := ((receiveFrame_gate hgate).trans (receiveFrame_decode hdecode)).trans (receiveFrame_rxchk hrxchk)
  have hseq := rxSeq_of_ok hgate (setAnswer_ok ..) hdecode hok hrxchk (setAnswer_ok ..) hcmd
  rw [rxSeqAccept_checked (mt (hframe.knownRepeat_iff ..).1 hnew) rfl hcmd] at hseq
  refine ⟨_, hseq, ?_, congrArg (· ++ _) hframe.events, rfl, rfl, rfl, rfl⟩
  rw [consumed_cfgErr, emitted_cfgErr, remembered_cfgErr, setAnswer_cfgErr]
  exact hmark.trans (setAnswer_cfgErr ..)

end Sys2Proof
end

section
/-! DEDUP and the duplicate slot FP_LAST, T_LAST, FP_VALID (43_dedup.md): what DEDUP answers (R181), what alone writes the slot
(R184), and the slot along a run without a DEDUP or a reset (R187). -/

namespace Sys2Proof.Machine

open Claims

/-- `SlotKept s t`: `t` has the duplicate slot of `s`. -/
structure SlotKept (s t : State) : Prop where
  tLast : t.tLast = s.tLast
  fpLast : t.fpLast = s.fpLast
  fpValid : t.fpValid = s.fpValid

theorem SlotKept.refl (s : State) : SlotKept s s := ⟨rfl, rfl, rfl⟩

theorem SlotKept.trans {s t u : State} (h : SlotKept s t) (h' : SlotKept t u) : SlotKept s u where
  tLast := h'.tLast.trans h.tLast
  fpLast := h'.fpLast.trans h.fpLast
  fpValid := h'.fpValid.trans h.fpValid

/-! ## What writes the slot -/

/-- Every operation keeps the slot, but a DEDUP that finds no known repeat: that one fills it (R184). -/
theorem Answers.slotKept_or_remembered {i : Instr} {s t : State} (h : Answers i s t) :
    SlotKept s t ∨
      ∃ fp now window, i = .dedup fp now window ∧ ¬ KnownRepeat s fp now window ∧ t = remembered fp now s := by
  cases h with
  | configFault | band | bandclr | classifyHit | classifyMiss | classifypHit | classifypMiss | decodeBad | gateIn | gateOut
  | chksum | rxchkHeader | rxchkChecksum | rxchkOk | emitRelease | emitRecord | consume | dedupOld | txbuild | txsendToken =>
    exact .inl ⟨rfl, rfl, rfl⟩
  | decodeOk _ _ _ _ _ _ _ _ _ _ _ hloop =>
    rw [decodeBits_frame hloop]
    exact .inl ⟨rfl, rfl, rfl⟩
  | dedupNew fp now window _ hnew =>
    exact .inr ⟨fp, now, window, rfl, mt (isDuplicate_iff ..).2 (Bool.eq_false_iff.1 hnew), rfl⟩
  | txframe =>
    rw [emitFrame_frame]
    exact .inl ⟨rfl, rfl, rfl⟩
  | txsendStop =>
    rw [emitSequence_frame]
    exact .inl ⟨rfl, rfl, rfl⟩
  | txsendSustained =>
    rw [emitRelease_frame, emitSequence_frame]
    exact .inl ⟨rfl, rfl, rfl⟩

/-- An input that is neither a DEDUP nor a reset keeps the slot; a CAPTURE step has it not in its write set (20_memory.md
R66). -/
theorem slotKept_of_perform {x : Input} {s t : State} (hx : leavesSlot x = true) (h : perform x s = .next t) :
    SlotKept s t := by
  cases x with
  | op cw =>
    rcases (answers_of_exec h).slotKept_or_remembered with hkept | ⟨fp, now, window, hdedup, -, -⟩
    · exact hkept
    · simp [leavesSlot, hdedup, isDedup] at hx
  | capture c =>
    simp only [perform, capture] at h
    split at h
    · cases h
      exact ⟨rfl, rfl, rfl⟩
    · cases h
  | reset => cases hx

theorem slotKept_of_leads {xs : List Input} {s t : State} (hxs : ∀ x ∈ xs, leavesSlot x = true) (h : Leads xs s t) :
    SlotKept s t := by
  induction xs generalizing s with
  | nil =>
    cases h
    exact .refl _
  | cons x xs ih =>
    obtain ⟨u, hu, hrest⟩ := h
    obtain ⟨hx, hxs⟩ := List.forall_mem_cons.1 hxs
    exact (slotKept_of_perform hx hu).trans (ih hxs hrest)

/-! ## What DEDUP answers -/

/-- DEDUP ends `done` in every state, with DUP = 1 exactly on a known repeat (R181). -/
theorem exec_dedup_dup_iff (fp now : BitVec 32) (window : BitVec 16) (s : State) :
    ∃ t, exec (.dedup fp now window) s = .next t ∧ t.ok = true ∧ (t.dup = true ↔ KnownRepeat s fp now window) := by
  by_cases h : KnownRepeat s fp now window
  · exact ⟨_, exec_dedup_known h, setAnswer_ok .., iff_of_true (setAnswer_dup ..) h⟩
  · exact ⟨_, exec_dedup_new h, setAnswer_ok .., iff_of_false (by simp [remembered]) h⟩

/-- A DEDUP with DUP = 0 has remembered the packet. -/
theorem eq_remembered_of_dup_eq_false {fp now : BitVec 32} {window : BitVec 16} {s t : State}
    (h : exec (.dedup fp now window) s = .next t) (hdup : t.dup = false) : t = remembered fp now s := by
  by_cases hknown : KnownRepeat s fp now window
  · rw [exec_dedup_known hknown] at h
    cases h
    simp at hdup
  · rw [exec_dedup_new hknown] at h
    cases h
    rfl

/-- While the slot stays as a DEDUP filled it, the packet is a known repeat by its age and the hash alone (R182, R183). -/
theorem SlotKept.knownRepeat_iff {fp t1 : BitVec 32} {s b : State} (h : SlotKept (remembered fp t1 s) b)
    (t2 : BitVec 32) (window : BitVec 16) :
    KnownRepeat b fp t2 window ↔
      (t2.toNat + 2 ^ 32 - t1.toNat) % 2 ^ 32 ≤ window.toNat ∧ b.hash = b.hashPrev := by
  have htLast : b.tLast = t1 := h.tLast
  have hfpLast : b.fpLast = fp := h.fpLast
  have hfpValid : b.fpValid = true := h.fpValid
  rw [KnownRepeat, htLast, hfpLast, hfpValid]
  simp only [true_and]

end Sys2Proof.Machine

namespace Sys2Proof

open Machine Claims

/-- Settles O33: the two branches of R181, each as the state it answers. -/
theorem dedupRemembersOrSuppresses : Obligations.DedupRemembersOrSuppresses := fun _ _ _ _ =>
  ⟨fun h => ends_of_setAnswer (exec_dedup_known h) rfl, fun h => ends_of_setAnswer (exec_dedup_new h) rfl⟩

/-- Settles O34, by what each operation does to the slot. -/
theorem timestampMovesWithTheFingerprint : Obligations.TimestampMovesWithTheFingerprint := by
  intro i s t h
  rcases (answers_of_exec h).slotKept_or_remembered with hkept | ⟨fp, now, window, rfl, hnew, rfl⟩
  · exact .inl ⟨hkept.tLast, hkept.fpLast, hkept.fpValid⟩
  · exact .inr ⟨fp, now, window, rfl, hnew, setAnswer_dup .., rfl, rfl, rfl⟩

/-- Settles O35: the first DEDUP fills the slot, the inputs between keep it, and so the age decides the second. -/
theorem repeatIsSuppressedExactlyInsideTheWindow : Obligations.RepeatIsSuppressedExactlyInsideTheWindow := by
  intro fp t1 t2 w s a b xs hfirst hdup hxs hleads hhash
  obtain rfl := eq_remembered_of_dup_eq_false hfirst hdup
  have hslot : SlotKept (remembered fp t1 s) b := slotKept_of_leads hxs hleads
  obtain ⟨c, he, hok, hiff⟩ := exec_dedup_dup_iff fp t2 w b
  refine ⟨c, he, hok, ?_⟩
  rw [hiff, hslot.knownRepeat_iff]
  exact and_iff_left hhash

end Sys2Proof
end

section
/-! The codes and counts of the registers (10_state.md R21 to R30; 30_encoding.md R85, R86, R88; 44_tx_encoder.md R211): what
each ending makes of ST and CFGCAUSE, and what each operation writes elsewhere. -/

namespace Sys2Proof.Machine

section

variable {s : State} (hs : RegisterInv s)

include hs

/-- A `done` has reason NONE, and only a `done` is a duplicate. -/
theorem setAnswer_registerInv {ok dup : Bool} {r : Reason} (hok : ok = true → r = .none) (hdup : dup = true → ok = true) :
    RegisterInv (setAnswer ok dup r s) :=
  { hs with
    reserved := (statusReserved_answer ..).trans hs.reserved
    reason := by
      rw [setAnswer_reason]
      exact r.code_lt
    okReason := fun h => by
      rw [setAnswer_ok] at h
      rw [setAnswer_reason, hok h]
      rfl
    dupOk := by
      rw [setAnswer_dup, setAnswer_ok]
      exact hdup
    causeMark := by
      rw [setAnswer_cfgErr]
      exact hs.causeMark }

theorem done_registerInv {dup : Bool} : RegisterInv (setAnswer true dup .none s) :=
  setAnswer_registerInv hs (fun _ => rfl) fun _ => rfl

theorem reject_registerInv {r : Reason} : RegisterInv (setAnswer false false r s) :=
  setAnswer_registerInv hs nofun nofun

/-- A marked state has a cause: the new one, or the one kept, which is no 0 where CFGERR was 1. -/
theorem markConfigFault_registerInv (c : Cause) : RegisterInv (markConfigFault c s) := by
  have hcause : (markConfigFault c s).cfgCause.toNat < 7 ∧ (markConfigFault c s).cfgCause ≠ 0 := by
    rw [markConfigFault_cfgCause]
    cases h : s.cfgErr with
    | false => exact ⟨c.code_lt, c.code_ne_zero⟩
    | true => exact ⟨hs.cause, fun h0 => Bool.noConfusion (h.symm.trans (hs.causeMark.2 h0))⟩
  exact { hs with
    reserved := (statusReserved_mark _).trans hs.reserved
    reason := by
      rw [markConfigFault_reason]
      exact hs.reason
    okReason := by
      rw [markConfigFault_ok, markConfigFault_reason]
      exact hs.okReason
    dupOk := by
      rw [markConfigFault_dup, markConfigFault_ok]
      exact hs.dupOk
    cause := hcause.1
    causeMark := by
      rw [markConfigFault_cfgErr]
      exact iff_of_false nofun hcause.2 }

theorem setBand_registerInv (b : Fin 4) {x : Band} (hx : x.v = true → x.min ≤ x.max) : RegisterInv (setBand b x s) :=
  { hs with
    bands := fun i => by
      rcases eq_or_ne b i with rfl | h
      · rwa [band_setBand_same]
      · rw [band_setBand_other h]
        exact hs.bands i }

/-- MATCH may hold a band index (40_classifier.md R115). -/
theorem matched_registerInv (i : Fin 4) : RegisterInv { s with matchReg := BitVec.ofNat 3 i.val } :=
  { hs with matchCode := (Nat.mod_le ..).trans_lt (i.isLt.trans (by decide)) }

/-- RXCMD is unspecified after a rejecting RXCHK, but no reserved code (30_encoding.md R88; log 9). -/
theorem forgetRx_registerInv : RegisterInv (forgetRx s) :=
  { hs with rxCmdCode := (Nat.mod_le ..).trans_lt (Config.rejectedRxCmd s.draws).isLt }

/-- A CAPTURE inside its write set sets NUMBER within PULSE. -/
theorem applyCapture_registerInv {c : Capture} (hc : c.legal = true) : RegisterInv (applyCapture c s) := by
  obtain ⟨-, hnumber⟩ := c.legal_iff.1 hc
  have hle : (c.number.getD s.number).toNat ≤ Config.pulseMax := by
    cases h : c.number with
    | none => exact hs.number
    | some n => exact hnumber n h
  exact { hs with number := hle }

end

theorem bandMin_le_bandMax {multiply nominal tol : BitVec 16} (h : nominal.toNat + tol.toNat ≤ 65535) :
    bandMin multiply nominal tol ≤ bandMax multiply nominal tol := by
  rw [BitVec.le_def, bandMin_toNat, bandMax_toNat _ _ _ h]
  exact Nat.div_le_div_right (by omega)

/-- By cases on what was answered: what is written beside ST and CFGCAUSE is legal, and TXFRAME and TXSEND leave the line
low. -/
theorem Answers.registerInv {i : Instr} {s t : State} (h : Answers i s t) (hs : RegisterInv s) : RegisterInv t := by
  cases h with
  | configFault => exact markConfigFault_registerInv hs _
  | band b nominal tol _ _ _ hsum => exact done_registerInv (setBand_registerInv hs b fun _ => bandMin_le_bandMax hsum)
  | bandclr b => exact done_registerInv (setBand_registerInv hs b (x := { Machine.band s b with v := false }) nofun)
  | classifyHit _ _ i | classifypHit _ _ i => exact done_registerInv (matched_registerInv hs i)
  | classifyMiss | classifypMiss =>
    refine reject_registerInv ?_
    exact { hs with matchCode := Nat.lt_add_one 4 }
  | decodeOk nbits count start smin smax lmin lmax s u hn hc h =>
    rw [decodeBits_frame h]
    refine done_registerInv ?_
    exact { hs with fbBits := hn }
  | decodeBad =>
    refine reject_registerInv ?_
    exact { hs with fbBits := Nat.zero_le _ }
  | gateIn | chksum | emitRelease | emitRecord | dedupOld | dedupNew | txbuild =>
    refine done_registerInv ?_
    exact { hs with }
  | gateOut | txsendToken => exact reject_registerInv hs
  | rxchkHeader | rxchkChecksum =>
    have hsum : RegisterInv { s with sum := frameSum s } := { hs with }
    exact reject_registerInv (forgetRx_registerInv hsum)
  | rxchkOk =>
    refine done_registerInv ?_
    exact { hs with rxCmdCode := Command.code_lt _ }
  | consume z =>
    have hnumber : (if z then 0 else s.number).toNat ≤ Config.pulseMax := by
      cases z with
      | false => exact hs.number
      | true => exact Nat.zero_le _
    refine done_registerInv ?_
    exact { hs with number := hnumber }
  | txframe primed =>
    rw [emitFrame_frame]
    refine done_registerInv ?_
    exact { hs with line := emitFrame_line primed s }
  | txsendStop =>
    rw [emitSequence_frame]
    refine done_registerInv ?_
    exact { hs with line := emitSequence_line .. }
  | txsendSustained =>
    rw [emitRelease_frame, emitSequence_frame]
    refine done_registerInv ?_
    exact { hs with line := emitSequence_line .. }

end Sys2Proof.Machine

namespace Sys2Proof

open Machine

/-- Settles O49, by cases on the step's input. -/
theorem stepKeepsRegistersLegal : Obligations.StepKeepsRegistersLegal := by
  intro s t hs h
  have htake (rest : List Input) : RegisterInv { s with pending := rest } := { hs with }
  rcases step_cases h with ⟨-, rfl⟩ | ⟨cw, rest, -, he⟩ | ⟨c, rest, -, hc, rfl⟩ | ⟨rest, -, rfl⟩
  · exact hs
  · exact (answers_of_exec he).registerInv (htake rest)
  · exact applyCapture_registerInv (htake rest) hc
  · exact resetNow_registerInv _

end Sys2Proof
end

section
/-! How many segments a transmission has and how long they last (44_tx_encoder.md R210), and the physical line (R211). -/

namespace Sys2Proof.Machine

open Claims

/-! ## Durations -/

@[simp] theorem duration_nil : duration [] = 0 := rfl

@[simp] theorem duration_cons (x : Segment) (xs : List Segment) : duration (x :: xs) = x.us + duration xs := by
  simp [duration]

@[simp] theorem duration_append (xs ys : List Segment) : duration (xs ++ ys) = duration xs + duration ys := by
  simp [duration]

@[simp] theorem duration_lowFor (t : Nat) : duration (lowFor t) = t := by
  unfold lowFor
  split
  · simp [*]
  · simp

@[simp] theorem length_lowFor (t : Nat) : (lowFor t).length = if t = 0 then 0 else 1 := by
  unfold lowFor
  split <;> rfl

/-- A pulse pair lasts as long for either bit. -/
theorem duration_pairOf (t : Config.TxTiming) (bit : Bool) : duration (pairOf t bit) = t.tShort + t.tLong := by
  cases bit with
  | false => rfl
  | true => exact Nat.add_comm t.tLong t.tShort

@[simp] theorem length_pairOf (t : Config.TxTiming) (bit : Bool) : (pairOf t bit).length = 2 := by
  cases bit <;> rfl

theorem duration_flatMap_pairOf (t : Config.TxTiming) (bits : Nat → Bool) (ks : List Nat) :
    duration (ks.flatMap fun k => pairOf t (bits k)) = ks.length * (t.tShort + t.tLong) := by
  induction ks with
  | nil => simp
  | cons k ks ih =>
    rw [List.flatMap_cons, duration_append, duration_pairOf, ih, List.length_cons, Nat.succ_mul, Nat.add_comm]

theorem duration_flatten_replicate (n : Nat) (xs : List Segment) :
    duration (List.replicate n xs).flatten = n * duration xs := by
  induction n with
  | zero => simp
  | succ n ih => rw [List.replicate_succ, List.flatten_cons, duration_append, ih, Nat.succ_mul, Nat.add_comm]

theorem length_frameTrace (t : Config.TxTiming) (primed : Bool) (bits : Nat → Bool) :
    (frameTrace t primed bits).length = (if primed then 148 else 132) + (if t.tGap = 0 then 0 else 1) := by
  cases primed with
  | false =>
    simp [frameTrace]
    omega
  | true =>
    simp [frameTrace]
    omega

theorem duration_frameTrace (t : Config.TxTiming) (primed : Bool) (bits : Nat → Bool) :
    duration (frameTrace t primed bits) = t.tSyncHigh + t.tSyncLow + 65 * (t.tShort + t.tLong) + t.tGap +
      (if primed then 8 * (t.tWakeHigh + t.tWakeLow) else 0) := by
  simp only [frameTrace, duration_append, duration_flatMap_pairOf, List.length_range, duration_lowFor]
  cases primed with
  | false => simp
  | true =>
    simp only [if_true, duration_flatten_replicate, duration_cons, duration_nil]
    omega

theorem length_sequenceTrace (t : Config.TxTiming) (n : Nat) (bits : Nat → Bool) :
    (sequenceTrace t n bits).length = 148 + n * 132 + (if t.tGap = 0 then 0 else n + 1) := by
  have hlength : (sequenceTrace t n bits).length =
      (frameTrace t true bits).length + n * (frameTrace t false bits).length := by
    simp [sequenceTrace]
  rw [hlength, length_frameTrace, length_frameTrace]
  rcases eq_or_ne t.tGap 0 with hgap | hgap
  · rw [if_pos hgap, if_pos hgap]
    rfl
  · rw [if_neg hgap, if_neg hgap, if_neg Bool.false_ne_true, if_pos rfl]
    omega

/-- A sustained command has the release delay between its two sequences (R206, R207). -/
theorem length_sustainedTrace (id : BitVec 24) (node : BitVec 8) (code : BitVec 16) :
    (sustainedTrace id node code).length = 2013 + (if Config.txTiming.tGap = 0 then 0 else 15) := by
  rw [sustainedTrace, List.length_append, List.length_append, length_sequenceTrace, length_sequenceTrace,
    List.length_singleton]
  split <;> omega

/-! ## The physical line -/

/-- A segment put before a merged line is alone, joins the first segment, or stands before it. -/
theorem mergeLevels_cons (x : Segment) (xs : List Segment) :
    (mergeLevels xs = [] ∧ mergeLevels (x :: xs) = [x]) ∨
    ∃ y ys, mergeLevels xs = y :: ys ∧
      ((x.high = y.high ∧ mergeLevels (x :: xs) = ⟨x.high, x.us + y.us⟩ :: ys) ∨
        (x.high ≠ y.high ∧ mergeLevels (x :: xs) = x :: y :: ys)) := by
  rw [mergeLevels]
  cases mergeLevels xs with
  | nil => exact .inl ⟨rfl, rfl⟩
  | cons y ys =>
    refine .inr ⟨y, ys, rfl, ?_⟩
    rcases eq_or_ne x.high y.high with h | h
    · exact .inl ⟨h, if_pos h⟩
    · exact .inr ⟨h, if_neg h⟩

theorem duration_mergeLevels (xs : List Segment) : duration (mergeLevels xs) = duration xs := by
  induction xs with
  | nil => rfl
  | cons x xs ih =>
    rw [duration_cons, ← ih]
    rcases mergeLevels_cons x xs with ⟨he, h⟩ | ⟨y, ys, he, ⟨-, h⟩ | ⟨-, h⟩⟩
    · rw [h, he, duration_cons]
    · rw [h, he, duration_cons, duration_cons, Nat.add_assoc]
    · rw [h, he, duration_cons]

/-- A merged neighbour has the level of the two it was merged from. -/
theorem mergeLevels_isChain (xs : List Segment) : (mergeLevels xs).IsChain fun x y => x.high ≠ y.high := by
  induction xs with
  | nil => exact .nil
  | cons x xs ih =>
    rcases mergeLevels_cons x xs with ⟨-, h⟩ | ⟨y, ys, he, hcons⟩
    · exact h ▸ .singleton x
    · rw [he] at ih
      rcases hcons with ⟨hxy, h⟩ | ⟨hxy, h⟩
      · rw [h, List.isChain_cons, hxy]
        exact List.isChain_cons.1 ih
      · exact h ▸ .cons_cons hxy ih

end Sys2Proof.Machine

namespace Sys2Proof

open Machine

/-- Settles O41, by induction on the segments. -/
theorem mergedLineKeepsItsDuration : Obligations.MergedLineKeepsItsDuration := fun xs =>
  ⟨duration_mergeLevels xs, mergeLevels_isChain xs⟩

end Sys2Proof
end

section
/-! TXBUILD, TXFRAME and TXSEND (44_tx_encoder.md R202, R204, R206): the state each ends with. -/

namespace Sys2Proof.Machine

open Claims

/-! ## Frames and sequences -/

/-- R5's constraints hold whatever the OPEN durations are (log 11). -/
theorem txTiming_valid : ValidTiming Config.txTiming :=
  ⟨Nat.succ_pos _, Nat.lt_add_of_pos_right (Nat.succ_pos _), Nat.succ_pos _, Nat.succ_pos _, Nat.succ_pos _, Nat.succ_pos _,
    Nat.succ_pos _⟩

theorem emitFrame_eq (primed : Bool) (s : State) :
    emitFrame Config.txTiming primed s =
      { s with trace := s.trace ++ frameTrace Config.txTiming primed (txfBit s), line := false } := by
  rw [emitFrame_frame, emitFrame_line, emitFrame_trace, filter_frameSegments txTiming_valid]

theorem emitSequence_eq (n : Nat) (s : State) :
    emitSequence Config.txTiming true n s =
      { s with trace := s.trace ++ sequenceTrace Config.txTiming n (txfBit s), line := false } := by
  rw [emitSequence_frame, emitSequence_line, emitSequence_trace, filter_frameSegments txTiming_valid,
    filter_frameSegments txTiming_valid, List.append_assoc]
  rfl

/-- A frame drives its 65 data bits only. -/
theorem frameTrace_congr {t : Config.TxTiming} {primed : Bool} {bits bits' : Nat → Bool}
    (h : ∀ k < 65, bits k = bits' k) :
    frameTrace t primed bits = frameTrace t primed bits' := by
  have hpairs : ((List.range 65).flatMap fun k => pairOf t (bits k)) = (List.range 65).flatMap fun k => pairOf t (bits' k) :=
    List.flatMap_congr fun k hk => by rw [h k (List.mem_range.1 hk)]
  rw [frameTrace, hpairs, frameTrace]

theorem sequenceTrace_buildFrame (t : Config.TxTiming) (n : Nat) (id : BitVec 24) (node : BitVec 8) (code : BitVec 16)
    (s : State) :
    sequenceTrace t n (txfBit (buildFrame id node code s)) = sequenceTrace t n (frameBit id node code) := by
  have hframe (primed : Bool) :
      frameTrace t primed (txfBit (buildFrame id node code s)) = frameTrace t primed (frameBit id node code) :=
    frameTrace_congr fun k hk => txfBit_buildFrame s (by omega)
  rw [sequenceTrace, hframe, hframe, sequenceTrace]

theorem exec_txframe_invalid {primed : Bool} {s : State} (h : s.txfValid = false) :
    exec (.txframe primed) s = raise .bufferState s :=
  if_neg (by simp [h])

theorem exec_txframe {primed : Bool} {s : State} (h : s.txfValid = true) :
    exec (.txframe primed) s =
      done { s with trace := s.trace ++ frameTrace Config.txTiming primed (txfBit s), line := false } := by
  rw [← emitFrame_eq]
  exact if_pos h

/-! ## TXSEND -/

/-- The state after a transmission: the segments in TRACE, the line low, and in TXF the frame that was driven last. -/
def transmitted (id : BitVec 24) (node : BitVec 8) (code : BitVec 16) (xs : List Segment) (s : State) : State :=
  { buildFrame id node code s with trace := s.trace ++ xs, line := false }

theorem exists_next_of_transmitted {i : Instr} {id : BitVec 24} {node : BitVec 8} {code : BitVec 16} {xs : List Segment}
    {s : State} (h : exec i s = done (transmitted id node code xs s)) :
    ∃ t, exec i s = .next t ∧
      t = { s with st := t.st, txf := t.txf, txfValid := true, line := false, trace := s.trace ++ xs } ∧
      Answered s t true false 0 ∧ HoldsFrame t id node code :=
  ⟨_, h, rfl, answered_setAnswer rfl, holdsFrame_buildFrame id node code s⟩

theorem transmitted_transmitted (id : BitVec 24) (node : BitVec 8) (code code' : BitVec 16) (xs ys : List Segment)
    (s : State) :
    transmitted id node code' ys (transmitted id node code xs s) = transmitted id node code' (xs ++ ys) s := by
  simp [transmitted, buildFrame]

theorem emitSequence_buildFrame (n : Nat) (id : BitVec 24) (node : BitVec 8) (code : BitVec 16) (s : State) :
    emitSequence Config.txTiming true n (buildFrame id node code s) =
      transmitted id node code (sequenceTrace Config.txTiming n (frameBit id node code)) s := by
  rw [emitSequence_eq, sequenceTrace_buildFrame]
  rfl

/-- The release delay and the release sequence (R207). -/
theorem emitRelease_eq (codes : Config.CmdCodes) (id : BitVec 24) (node : BitVec 8) (s : State) :
    emitRelease Config.txTiming codes id node s =
      transmitted id node codes.release
        ([⟨false, Config.txTiming.tReleaseDelay⟩] ++ sequenceTrace Config.txTiming 4 (frameBit id node codes.release)) s := by
  have hdelay : seg ⟨false, Config.txTiming.tReleaseDelay⟩ s =
      { s with trace := s.trace ++ [⟨false, Config.txTiming.tReleaseDelay⟩], line := false } := if_pos (Nat.succ_pos _)
  rw [emitRelease, hdelay]
  refine (emitSequence_buildFrame 4 id node codes.release _).trans ?_
  simp [transmitted, buildFrame]

/-- The segments a TXSEND drives (R206): those of Stop, of the two sustained commands, and none for any other token. -/
def txsendTrace (id : BitVec 24) (node : BitVec 8) (token : BitVec 3) : List Segment :=
  match txCodeWith Config.cmdCodes token with
  | none => []
  | some code =>
    if token = Command.stop.code then sequenceTrace Config.txTiming 9 (frameBit id node code)
    else sustainedTrace id node code

variable {id : BitVec 24} {node : BitVec 8} {token : BitVec 3} {s : State}

theorem length_txsendTrace_stop :
    (txsendTrace id node 3).length = 1336 + (if Config.txTiming.tGap = 0 then 0 else 10) :=
  length_sequenceTrace ..

theorem length_txsendTrace_sustained (h : token = 1 ∨ token = 2) :
    (txsendTrace id node token).length = 2013 + (if Config.txTiming.tGap = 0 then 0 else 15) := by
  rcases h with rfl | rfl
  · exact length_sustainedTrace id node 0x000B
  · exact length_sustainedTrace id node Config.cmdCodes.down

theorem exec_txsend_unsendable (h : txCodeWith Config.cmdCodes token = none) :
    exec (.txsend id node token) s = reject .token s := by
  show txsendWith _ _ _ _ _ _ = _
  rw [txsendWith, h]

theorem exec_txsend_stop :
    exec (.txsend id node 3) s =
      done (transmitted id node Config.cmdCodes.stop
        (sequenceTrace Config.txTiming 9 (frameBit id node Config.cmdCodes.stop)) s) := by
  rw [← emitSequence_buildFrame]
  rfl

theorem exec_txsend_sustained {code : BitVec 16} (hcode : txCodeWith Config.cmdCodes token = some code)
    (hstop : token ≠ Command.stop.code) :
    exec (.txsend id node token) s =
      done (transmitted id node Config.cmdCodes.release (sustainedTrace id node code) s) := by
  show txsendWith _ _ _ _ _ _ = _
  rw [txsendWith, hcode]
  refine (if_neg hstop).trans ?_
  rw [emitSequence_buildFrame, emitRelease_eq, transmitted_transmitted, ← List.append_assoc]
  rfl

/-- TXSEND drives `txsendTrace`, and writes nothing of the receive side (R208). -/
theorem txsend_drives (id : BitVec 24) (node : BitVec 8) (token : BitVec 3) (s : State) :
    ∃ t, exec (.txsend id node token) s = .next t ∧ t.trace = s.trace ++ txsendTrace id node token ∧
      t = { s with st := t.st, txf := t.txf, txfValid := t.txfValid, line := t.line, trace := t.trace } := by
  rw [txsendTrace]
  rcases hcode : txCodeWith Config.cmdCodes token with _ | code
  · exact ⟨_, exec_txsend_unsendable hcode, (List.append_nil _).symm, rfl⟩
  · by_cases hstop : token = Command.stop.code
    · subst hstop
      cases hcode
      exact ⟨_, exec_txsend_stop, rfl, rfl⟩
    · refine ⟨_, exec_txsend_sustained hcode hstop, ?_, rfl⟩
      simp only [if_neg hstop]
      rfl

end Sys2Proof.Machine

namespace Sys2Proof

open Machine Claims

/-- Settles O36: TXF is written whole with the frame's nine bytes. -/
theorem txbuildBuildsTheFrame : Obligations.TxbuildBuildsTheFrame := fun id node code s =>
  ⟨_, rfl, rfl, answered_setAnswer rfl, holdsFrame_buildFrame id node code s⟩

/-- Settles O37: every segment but an empty gap reaches TRACE, and the last pulse pair leaves the line low. -/
theorem txframeDrivesOneFrame : Obligations.TxframeDrivesOneFrame := fun _ _ =>
  ⟨fun h => faults_of_markConfigFault (exec_txframe_invalid h), fun h => ends_of_setAnswer (exec_txframe h) rfl⟩

/-- Settles O38: Up and Down have a code other than Stop's, and any other token is off R89's list. -/
theorem txsendDrivesTheWholeSchedule : Obligations.TxsendDrivesTheWholeSchedule := by
  intro id node s
  refine ⟨exists_next_of_transmitted (exec_txsend_sustained rfl (by decide)),
    exists_next_of_transmitted (exec_txsend_sustained rfl (by decide)), exists_next_of_transmitted exec_txsend_stop,
    fun token hup hdown hstop => ?_⟩
  have hwf : (Instr.txsend id node token).wf = false := by
    simpa [Instr.wf] using ⟨⟨hup, hdown⟩, hstop⟩
  exact ends_of_setAnswer (exec_txsend_unsendable (txCodeWith_of_not_wf _ hwf)) rfl

/-- Settles O39: TRACE grows by the segments TXSEND and TXFRAME drive. -/
theorem transmissionsHaveTheirCountsAndDurations : Obligations.TransmissionsHaveTheirCountsAndDurations := by
  refine ⟨fun id node token s t h => ?_, fun primed s t hvalid h => ?_⟩
  · obtain ⟨u, he, htrace, -⟩ := txsend_drives id node token s
    cases he.symm.trans h
    rw [htrace, List.length_append]
    refine ⟨?_, fun htoken => ?_⟩
    · rintro rfl
      rw [length_txsendTrace_stop, Nat.add_assoc]
    · rw [length_txsendTrace_sustained htoken, Nat.add_assoc]
  · cases (exec_txframe hvalid).symm.trans h
    rw [setAnswer_trace, List.length_append, duration_append, length_frameTrace, duration_frameTrace]
    omega

/-- Settles O40: what TXSEND drives is `txsendTrace`. -/
theorem transmissionDependsOnItsOperandsAlone : Obligations.TransmissionDependsOnItsOperandsAlone :=
  ⟨txsendTrace, txsend_drives⟩

end Sys2Proof
end

section
/-! Runs without a reset (60_exceptions.md R246): a step takes one input from the list and keeps a mark, so a run that ends
unmarked passed no marked state. -/

namespace Sys2Proof.Machine

/-- Whatever a step does, the inputs it leaves are those after the first (20_memory.md R68). -/
theorem pending_of_step {s t : State} (h : step s = .next t) : t.pending = s.pending.tail := by
  rcases step_cases h with ⟨hp, rfl⟩ | ⟨cw, rest, hp, he⟩ | ⟨c, rest, hp, -, rfl⟩ | ⟨rest, hp, rfl⟩ <;> rw [hp]
  · rfl
  · exact (answers_of_exec he).memoryFrame.pending
  · rfl
  · rfl

/-- A run of one more step is a step and the run from there. -/
theorem run_succ_eq_next_iff (M : Host.Core) {n : Nat} {s t : M.State} :
    M.run (n + 1) s = .next t ↔ ∃ u, M.step s = .next u ∧ M.run n u = .next t := by
  rw [Host.Core.run]
  cases M.step s with
  | next u => simp
  | fault r => simp
  | refused r => simp

end Sys2Proof.Machine

namespace Sys2Proof

open Machine

theorem SafeRun.meaningful {n : Nat} {s : State} (h : SafeRun n s) : Meaningful s := by
  cases n with
  | zero => exact h
  | succ n => exact h.1

/-- Settles O12, by induction on the steps: a marked state would have marked the next one (O11), where the run is safe. -/
theorem unmarkedRunWasSafeThroughout : Obligations.UnmarkedRunWasSafeThroughout := by
  intro n s t hreset hrun hmark
  induction n generalizing s with
  | zero =>
    cases hrun
    exact hmark
  | succ n ih =>
    obtain ⟨u, hu, hrest⟩ := (run_succ_eq_next_iff Sys2Proof.core).1 hrun
    have hreset' : Input.reset ∉ u.pending := fun hmem => hreset (List.mem_of_mem_tail (pending_of_step hu ▸ hmem))
    have hsafe : SafeRun n u := ih u hreset' hrest
    refine ⟨Bool.eq_false_iff.2 fun hs => ?_, u, hu, hsafe⟩
    have hnext : ∀ rest, s.pending ≠ .reset :: rest := fun rest hp => hreset (hp ▸ List.mem_cons_self)
    obtain ⟨hmarked, -⟩ := configFaultMarkLastsUntilReset s u hs hnext hu
    exact Bool.eq_false_iff.1 hsafe.meaningful hmarked

end Sys2Proof
end

section
/-! What ST reports in an unmarked state: a duplicate (60_exceptions.md R242), and the reason of a rejection with the condition
of its row (R241). In a marked state OK, DUP and REASON may be those of an operation before (R246). -/

namespace Sys2Proof.Machine

open Claims

/-- An unmarked answer with DUP = 1 is that of a DEDUP on a known repeat. -/
theorem Answers.of_dup {i : Instr} {s t : State} (h : Answers i s t) (hmark : t.cfgErr = false) (hdup : t.dup = true) :
    t.ok = true ∧ ∃ fp now window, i = .dedup fp now window ∧ KnownRepeat s fp now window := by
  cases h with
  | configFault => simp at hmark
  | dedupOld fp now window _ hold => exact ⟨setAnswer_ok .., fp, now, window, rfl, (isDuplicate_iff ..).1 hold⟩
  | _ => simp at hdup

theorem number_out_of_inGate {n lo hi : BitVec 16} (h : inGate n lo hi = false) :
    n.toNat < lo.toNat ∨ hi.toNat < n.toNat := by
  rw [Bool.eq_false_iff, ne_eq, inGate_iff] at h
  omega

/-- A pulse that decides no bit lies behind the samples counted, or in neither band. -/
theorem examineBit_error_cause {b : PwmBands} {count start : BitVec 16} {s : State} {k : Nat} {r : Reason}
    (h : examineBit b count start s k = .error r) :
    (r = .exhausted ∧ count.toNat ≤ start.toNat + 2 * k) ∨
      (r = .timing ∧ start.toNat + 2 * k < count.toNat ∧
        inBand (pulseAt s (start.toNat + 2 * k)) b.smin b.smax = false ∧
        inBand (pulseAt s (start.toNat + 2 * k)) b.lmin b.lmax = false) := by
  rcases Nat.lt_or_ge (start.toNat + 2 * k) count.toNat with hlt | hge
  · cases hbit : pulseBit b (pulseAt s (start.toNat + 2 * k)) with
    | none =>
      cases (examineBit_of_timing hlt hbit).symm.trans h
      exact .inr ⟨rfl, hlt, (pulseBit_eq_none_iff ..).1 hbit⟩
    | some bit => cases (examineBit_eq_ok_iff.2 ⟨hlt, hbit⟩).symm.trans h
  · cases (examineBit_of_exhausted hge).symm.trans h
    exact .inl ⟨rfl, hge⟩

/-- A token without a raw code is none of Up, Down and Stop (44_tx_encoder.md R201). -/
theorem token_of_txCodeWith_eq_none {codes : Config.CmdCodes} {token : BitVec 3} (h : txCodeWith codes token = none) :
    token ≠ 1 ∧ token ≠ 2 ∧ token ≠ 3 := by
  refine ⟨?_, ?_, ?_⟩ <;> rintro rfl <;> cases h

end Sys2Proof.Machine

namespace Sys2Proof

open Machine Claims

/-- Settles O13: DEDUP sets DUP exactly on a known repeat, and no other operation sets it. -/
theorem onlyDedupReportsADuplicate : Obligations.OnlyDedupReportsADuplicate := by
  refine ⟨fun fp now window s hknown => ?_, fun i s t h hmark hdup => (answers_of_exec h).of_dup hmark hdup⟩
  obtain ⟨t, he, hok, hdup⟩ := exec_dedup_dup_iff fp now window s
  exact ⟨t, he, hdup.2 hknown, hok⟩

/-- Settles O14, by cases on the operation's answer: a ConfigFault marks the state, and a `done` has OK = 1. -/
theorem everyRejectionHasItsCause : Obligations.EveryRejectionHasItsCause := by
  intro i s t h hmark hok
  cases answers_of_exec h with
  | configFault => simp at hmark
  | gateOut lo hi _ hout => exact .inl ⟨setAnswer_reason .., lo, hi, rfl, number_out_of_inGate hout⟩
  | classifyMiss d _ _ hmiss =>
    exact .inr (.inl ⟨setAnswer_reason .., d, .inl rfl, (matchingBand_eq_none_iff ..).1 hmiss⟩)
  | classifypMiss j _ _ _ hmiss =>
    exact .inr (.inl ⟨setAnswer_reason .., _, .inr ⟨j, rfl, rfl⟩, (matchingBand_eq_none_iff ..).1 hmiss⟩)
  | decodeBad nbits count start smin smax lmin lmax _ r _ _ hloop =>
    obtain ⟨k, hk, hbit, -⟩ := decodeBits_error hloop
    rw [examineBit_clearFb, Nat.zero_add] at hbit
    rcases examineBit_error_cause hbit with ⟨rfl, hge⟩ | ⟨rfl, htiming⟩
    · exact .inr (.inr (.inr (.inl ⟨setAnswer_reason .., _, _, _, _, _, _, _, rfl, k, hk, hge⟩)))
    · exact .inr (.inr (.inl ⟨setAnswer_reason .., _, _, _, _, _, _, _, rfl, k, hk, htiming⟩))
  | rxchkHeader _ _ hheader => exact .inr (.inr (.inr (.inr (.inl ⟨setAnswer_reason .., rfl, hheader⟩))))
  | rxchkChecksum _ _ _ hsum =>
    exact .inr (.inr (.inr (.inr (.inr (.inl ⟨setAnswer_reason .., rfl, mt (frameSum_eq_iff ..).2 hsum⟩)))))
  | txsendToken id node token _ hnone =>
    exact .inr (.inr (.inr (.inr (.inr (.inr
      ⟨setAnswer_reason .., id, node, token, rfl, token_of_txCodeWith_eq_none hnone⟩)))))
  | _ => simp at hok

end Sys2Proof
end

section
/-! The step with nothing presented (70_reset_and_hazards.md R271; log 3): the case that `step_of_pending` leaves. -/

namespace Sys2Proof.Machine

theorem takeInput_of_pending_nil {s : State} (h : s.pending = []) : takeInput s = none := by
  rw [takeInput, h]

/-- With no input to take, a step is the wait. -/
theorem step_of_pending_nil {s : State} (h : s.pending = []) : step s = idle s := by
  rw [step, takeInput_of_pending_nil h]

end Sys2Proof.Machine

namespace Sys2Proof

open Machine

/-- Settles O7: with no input to take the step is the wait, and the wait answers the same state. -/
theorem nothingPresentedNothingHappens : Obligations.NothingPresentedNothingHappens := by
  intro s hp
  calc step s = idle s := step_of_pending_nil hp
    _ = .next s := rfl

end Sys2Proof
end

section
/-! Which registers an operation writes (10_state.md R21 to R30): what its own writes leave, and then what its end leaves. -/

namespace Sys2Proof.Machine

open Claims

/-- `KeepsAllBut ws s t`: every register outside `ws` reads in `t` as in `s`. -/
structure KeepsAllBut (ws : List Reg) (s t : State) : Prop where
  readReg_eq : ∀ r, r ∉ ws → readReg t r = readReg s r

/-! ## What an operation writes itself

Memories, histories, band registers and the count of draws are none of the registers `readReg` reads. -/

theorem keepsAllBut_refl (ws : List Reg) (s : State) : KeepsAllBut ws s s := ⟨fun _ _ => rfl⟩

theorem keepsAllBut_setBand (b : Fin 4) (x : Band) (s : State) : KeepsAllBut [] s (setBand b x s) :=
  ⟨fun r _ => by cases r <;> rfl⟩

theorem keepsAllBut_emitRecord (x : EventRecord) (s : State) : KeepsAllBut [] s (emitRecord x s) :=
  ⟨fun r _ => by cases r <;> rfl⟩

theorem keepsAllBut_matchReg (x : BitVec 3) (s : State) : KeepsAllBut [.matchReg] s { s with matchReg := x } := by
  refine ⟨fun r hr => ?_⟩
  cases r with
  | matchReg => simp at hr
  | _ => rfl

/-- DECODE, whichever way it ends (41_pwm_decoder.md R132). -/
theorem keepsAllBut_fbBits (m : Memory 8) (n : BitVec 8) (draws : Nat) (s : State) :
    KeepsAllBut [.fbBits] s { s with fb := m, fbBits := n, draws := draws } := by
  refine ⟨fun r hr => ?_⟩
  cases r with
  | fbBits => simp at hr
  | _ => rfl

theorem keepsAllBut_sum (x : Byte) (s : State) : KeepsAllBut [.sum] s { s with sum := x } := by
  refine ⟨fun r hr => ?_⟩
  cases r with
  | sum => simp at hr
  | _ => rfl

/-- RXCHK, whichever way it ends (42_frame_check.md R155). -/
theorem keepsAllBut_rx (x : Byte) (id : BitVec 24) (node : BitVec 8) (code : BitVec 16) (cmd : BitVec 3) (valid : Bool)
    (draws : Nat) (s : State) :
    KeepsAllBut [.sum, .rxId, .rxNode, .rxCode, .rxCmd, .rxValid] s { s with
      sum := x, rxId := id, rxNode := node, rxCode := code, rxCmd := cmd, rxValid := valid, draws := draws } := by
  refine ⟨fun r hr => ?_⟩
  cases r with
  | sum | rxId | rxNode | rxCode | rxCmd | rxValid => simp at hr
  | _ => rfl

theorem keepsAllBut_repeats_number (x : Bool) (n : BitVec 16) (s : State) :
    KeepsAllBut [.repeats, .number] s { s with repeats := x, number := n } := by
  refine ⟨fun r hr => ?_⟩
  cases r with
  | repeats | number => simp at hr
  | _ => rfl

theorem keepsAllBut_slot (fp now : BitVec 32) (valid : Bool) (s : State) :
    KeepsAllBut [.fpLast, .tLast, .fpValid] s { s with fpLast := fp, tLast := now, fpValid := valid } := by
  refine ⟨fun r hr => ?_⟩
  cases r with
  | fpLast | tLast | fpValid => simp at hr
  | _ => rfl

theorem keepsAllBut_buildFrame (id : BitVec 24) (node : BitVec 8) (code : BitVec 16) (s : State) :
    KeepsAllBut [.txfValid] s (buildFrame id node code s) := by
  refine ⟨fun r hr => ?_⟩
  cases r with
  | txfValid => simp at hr
  | _ => rfl

theorem keepsAllBut_line (trace : List Segment) (l : Bool) (s : State) :
    KeepsAllBut [.line] s { s with trace := trace, line := l } := by
  refine ⟨fun r hr => ?_⟩
  cases r with
  | line => simp at hr
  | _ => rfl

/-- TXSEND, on whatever token it sends (44_tx_encoder.md R206). -/
theorem keepsAllBut_txfValid_line (m : Memory 8) (valid : Bool) (trace : List Segment) (l : Bool) (s : State) :
    KeepsAllBut [.txfValid, .line] s { s with txf := m, txfValid := valid, trace := trace, line := l } := by
  refine ⟨fun r hr => ?_⟩
  cases r with
  | txfValid | line => simp at hr
  | _ => rfl

/-! ## The ends of an operation, which write ST and CFGCAUSE (R21, R30) -/

theorem readReg_setAnswer {r : Reg} (h : r ≠ .st) (ok dup : Bool) (reason : Reason) (s : State) :
    readReg (setAnswer ok dup reason s) r = readReg s r := by
  cases r with
  | st => exact absurd rfl h
  | _ => rfl

theorem keepsAllBut_markConfigFault (ws : List Reg) (c : Cause) (s : State) :
    KeepsAllBut (.st :: .cfgCause :: ws) s (markConfigFault c s) := by
  refine ⟨fun r hr => ?_⟩
  cases r with
  | st | cfgCause => simp at hr
  | _ => rfl

theorem KeepsAllBut.answered {ws : List Reg} {s u : State} (h : KeepsAllBut ws s u) {ok dup : Bool} {reason : Reason} :
    KeepsAllBut (.st :: .cfgCause :: ws) s (setAnswer ok dup reason u) := by
  refine ⟨fun r hr => ?_⟩
  simp only [List.mem_cons, not_or] at hr
  obtain ⟨hst, -, hown⟩ := hr
  rw [readReg_setAnswer hst, h.readReg_eq r hown]

/-! ## The answers -/

/-- By cases on what was answered: an operation's list is ST, CFGCAUSE and what it writes itself. -/
theorem Answers.keepsAllBut_mayWrite {i : Instr} {s t : State} (h : Answers i s t) : KeepsAllBut (mayWrite i) s t := by
  cases h with
  | configFault => cases i <;> exact keepsAllBut_markConfigFault ..
  | band | bandclr => exact (keepsAllBut_setBand ..).answered
  | classifyHit | classifyMiss | classifypHit | classifypMiss => exact (keepsAllBut_matchReg ..).answered
  | decodeOk _ _ _ _ _ _ _ _ _ _ _ hloop =>
    rw [decodeBits_frame hloop]
    exact (keepsAllBut_fbBits ..).answered
  | decodeBad => exact (keepsAllBut_fbBits ..).answered
  | gateIn | gateOut | emitRelease | dedupOld | txsendToken => exact (keepsAllBut_refl ..).answered
  | chksum => exact (keepsAllBut_sum ..).answered
  | rxchkHeader | rxchkChecksum | rxchkOk => exact (keepsAllBut_rx ..).answered
  | emitRecord => exact (keepsAllBut_emitRecord ..).answered
  | consume => exact (keepsAllBut_repeats_number ..).answered
  | dedupNew => exact (keepsAllBut_slot ..).answered
  | txbuild => exact (keepsAllBut_buildFrame ..).answered
  | txframe =>
    rw [emitFrame_frame]
    exact (keepsAllBut_line ..).answered
  | txsendStop =>
    rw [emitSequence_frame]
    exact (keepsAllBut_txfValid_line ..).answered
  | txsendSustained =>
    rw [emitRelease_frame, emitSequence_frame]
    exact (keepsAllBut_txfValid_line ..).answered

/-- BAND and BANDCLR write the band register they name; no other answer writes one. -/
theorem Answers.band_eq {i : Instr} {s t : State} (h : Answers i s t) {b : Fin 4} (hb : bandWritten i ≠ some b) :
    Machine.band t b = Machine.band s b := by
  cases h with
  | band | bandclr => exact band_setBand_other (mt (congrArg some) hb) _ _
  | decodeOk _ _ _ _ _ _ _ _ _ _ _ hloop =>
    rw [decodeBits_frame hloop]
    rfl
  | txframe =>
    rw [emitFrame_frame]
    rfl
  | txsendStop =>
    rw [emitSequence_frame]
    rfl
  | txsendSustained =>
    rw [emitRelease_frame, emitSequence_frame]
    rfl
  | _ => rfl

end Sys2Proof.Machine

namespace Sys2Proof

open Machine

/-- Settles O46, by what each answer leaves as it was. -/
theorem operationsWriteTheirOwnRegistersOnly : Obligations.OperationsWriteTheirOwnRegistersOnly := fun _ _ _ h =>
  ⟨(answers_of_exec h).keepsAllBut_mayWrite.readReg_eq, fun _ => (answers_of_exec h).band_eq⟩

end Sys2Proof
end
